-- ==== Sys2Proof/Word.lean ====
section
/-! DEFINITION. The word types of the ANT-BMS frame engine (spec/00_scope.md R7): a byte is 8 bits,
unsigned; `u16` and `i16` registers are 16 bits, `u32` and `i32` registers 32 bits. A signed register
is the same bits read in two's complement (`BitVec.toInt`). -/
namespace Sys2Proof

/-- One byte of a chunk, a frame or the frame buffer (R7). -/
abbrev Byte := BitVec 8

/-- A 16-bit register or field: `u16`, or `i16` read with `BitVec.toInt` (R7). -/
abbrev Half := BitVec 16

/-- A 32-bit register or field: `u32`, or `i32` read with `BitVec.toInt` (R7). -/
abbrev Word := BitVec 32

/-- The low byte of a 16-bit value: the one stored first (R31, R82). -/
def Half.lowByte (h : Half) : Byte := h.setWidth 8

/-- The high byte of a 16-bit value: the one stored second (R31, R82). -/
def Half.highByte (h : Half) : Byte := (h >>> 8).setWidth 8

end Sys2Proof
end

