-- ==== Sys2Proof/Machine/Registers.lean ====
section
/-! DEFINITION. The records the engine's state is made of: the two groups of the snapshot
(spec/10_state.md R16, R17, R18), the scratch registers of the validator and the decoder (R14, R15), and
the values operations return or put on the event output (R20, R40, R105, R152). -/
namespace Sys2Proof.Machine

/-- `SNAP.STATUS` (R16): every numeric field at the width R16 gives it, raw as read from the frame.
`i16` and `i32` fields are read with `BitVec.toInt`. -/
structure StatusGroup where
  /-- `battery_status`, u8 code. -/
  batteryStatus : Byte
  /-- `temp_count`, `T`. -/
  tempCount : Byte
  /-- `cell_count`, `C`. -/
  cellCount : Byte
  /-- `cell_voltage[0..cell_count-1]`, u16 each. -/
  cellVoltage : List Half
  /-- `temperature[0..temp_count-1]`, i16 each. -/
  temperature : List Half
  /-- `mosfet_temperature`, i16 or absent. -/
  mosfetTemperature : Option Half
  /-- `balancer_temperature`, i16 or absent. -/
  balancerTemperature : Option Half
  /-- `total_voltage`, u16. -/
  totalVoltage : Half
  /-- `current`, i16. -/
  current : Half
  /-- `soc`, u16. -/
  soc : Half
  /-- `soh`, u16. -/
  soh : Half
  /-- `charge_mosfet_status`, u8 code. -/
  chargeMosfetStatus : Byte
  /-- `charge_mosfet_text`. -/
  chargeMosfetText : String
  /-- `discharge_mosfet_status`, u8 code. -/
  dischargeMosfetStatus : Byte
  /-- `discharge_mosfet_text`. -/
  dischargeMosfetText : String
  /-- `balancer_status`, u8 code. -/
  balancerStatus : Byte
  /-- `balancer_text`. -/
  balancerText : String
  /-- `capacity_configured`, u32. -/
  capacityConfigured : Word
  /-- `capacity_remaining`, u32. -/
  capacityRemaining : Word
  /-- `cycle_capacity`, u32. -/
  cycleCapacity : Word
  /-- `power`, i32. -/
  power : Word
  /-- `total_runtime`, u32 seconds. -/
  totalRuntime : Word
  /-- `total_runtime_text`. -/
  totalRuntimeText : String
  /-- `balanced_cell_bitmask`, u32. -/
  balancedCellBitmask : Word
  /-- `max_cell_voltage`, u16. -/
  maxCellVoltage : Half
  /-- `max_voltage_cell`, u16, 1-based. -/
  maxVoltageCell : Half
  /-- `min_cell_voltage`, u16. -/
  minCellVoltage : Half
  /-- `min_voltage_cell`, u16, 1-based. -/
  minVoltageCell : Half
  /-- `delta_cell_voltage`, u16. -/
  deltaCellVoltage : Half
  /-- `average_cell_voltage`, u16. -/
  averageCellVoltage : Half
  /-- `accumulated_discharge_capacity`, u32. -/
  accumulatedDischargeCapacity : Word
  /-- `accumulated_charge_capacity`, u32. -/
  accumulatedChargeCapacity : Word
  /-- `accumulated_discharge_time`, u32 seconds. -/
  accumulatedDischargeTime : Word
  /-- `accumulated_discharge_time_text`. -/
  accumulatedDischargeTimeText : String
  /-- `accumulated_charge_time`, u32 seconds. -/
  accumulatedChargeTime : Word
  /-- `accumulated_charge_time_text`. -/
  accumulatedChargeTimeText : String
deriving DecidableEq, Repr, Inhabited

/-- `SNAP.DEVINFO` (R17): the two version strings, 16 raw bytes each. -/
structure DevInfoGroup where
  /-- `hardware_version`. -/
  hardwareVersion : Vector Byte 16
  /-- `software_version`. -/
  softwareVersion : Vector Byte 16
deriving DecidableEq, Repr, Inhabited

/-- `SNAP`: the two groups and their valid bits (R16 to R18). -/
structure Snapshot where
  /-- `SNAP.STATUS_VALID` (R18). -/
  statusValid : Bool
  /-- `SNAP.STATUS` (R16). -/
  status : StatusGroup
  /-- `SNAP.DEVINFO_VALID` (R18). -/
  devinfoValid : Bool
  /-- `SNAP.DEVINFO` (R17). -/
  devinfo : DevInfoGroup
deriving DecidableEq, Repr

/-- The validator's scratch registers (R14). -/
structure ValidatorScratch where
  /-- `V.FN`, the function code at offset 2. -/
  fn : Byte
  /-- `V.DLEN`, the declared data length at offset 5. -/
  dlen : Byte
  /-- `V.FLEN`, `6 + data_len + 4`, held without wrap in 16 bits. -/
  flen : Half
  /-- `V.CRC_C`, the computed CRC. -/
  crcComputed : Half
  /-- `V.CRC_S`, the stored CRC. -/
  crcStored : Half
deriving DecidableEq, Repr, Inhabited

/-- The decoder's scratch registers (R15). -/
structure DecoderScratch where
  /-- `D.ST`, frame byte 7. -/
  st : Byte
  /-- `D.T`, frame byte 8, the temperature count. -/
  t : Byte
  /-- `D.C`, frame byte 9, the cell count. -/
  c : Byte
  /-- `D.OFF`, `2*C + 2*T`, held without wrap. -/
  off : Half
  /-- `D.BASE`, `34 + D.OFF`, held without wrap. -/
  base : Half
deriving DecidableEq, Repr, Inhabited

/-- Why a candidate was rejected (R20, R105): two reasons of the source and `Malformed` of the spec. -/
inductive RejectReason where
  | lengthMismatch
  | crcMismatch
  | malformed
deriving DecidableEq, Repr

/-- What VALIDATE returns (R105): `Ok(fn)` or `Rejected(reason)`. -/
inductive ValidateResult where
  | ok (fn : Byte)
  | rejected (reason : RejectReason)
deriving DecidableEq, Repr

/-- The closed set of decode outcomes (R152). -/
inductive DecodeOutcome where
  | statusUpdated
  | devInfoUpdated
  | unhandled
  | statusDropped
  | malformed
deriving DecidableEq, Repr

/-- The `outcome` field of a `FeedResult` (R20). -/
inductive FeedOutcome where
  | noCandidate
  | rejected (reason : RejectReason)
  | accepted (fn : Byte) (frame : List Byte) (decoded : DecodeOutcome)
deriving DecidableEq, Repr

/-- The record every FEED puts on the event output (R20). -/
structure FeedResult where
  /-- `overflow_cleared`: step 1 cleared an over-long buffer (R91). -/
  overflowCleared : Bool
  /-- `preamble_cleared`: step 2 cleared the buffer because the chunk opens with the preamble (R92). -/
  preambleCleared : Bool
  /-- The one outcome of the FEED. -/
  outcome : FeedOutcome
deriving DecidableEq, Repr

/-- What SNAP.READ returns (R40): the two valid bits, and each group whose valid bit is 1. -/
structure SnapRead where
  statusValid : Bool
  devinfoValid : Bool
  status : Option StatusGroup
  devinfo : Option DevInfoGroup
deriving DecidableEq, Repr

/-- The value the last operation returned to whoever issued it: nothing for RESET, a `FeedResult` for
FEED (R90), the snapshot for SNAP.READ (R40), the CRC for CRC16 (R80), the verdict for VALIDATE (R105),
the function code and decode outcome for DECODE and the frame operations (R120, R121, R150, R151). -/
inductive Returned where
  | nothing
  | feed (r : FeedResult)
  | snap (r : SnapRead)
  | crc (c : Half)
  | validated (r : ValidateResult)
  | decoded (fn : Byte) (o : DecodeOutcome)
deriving DecidableEq, Repr

end Sys2Proof.Machine
end

