-- ==== Sys2Proof/Config.lean ====
section
/-! DEFINITION. What an implementation of the block fixes: the constants of spec/00_scope.md R5, the
parameters of R6 (a record `Config`, which the model carries beside the state so that every statement
about all states holds for every configuration), and the free values: constants with no body that stand
for what the spec leaves open. -/
namespace Sys2Proof

/-! ## Constants of R5 -/

/-- `BUF_MAX`, the buffer length FEED's step 1 tests against (R5, R91). -/
def bufMax : Nat := 152
/-- `PRE0` (R5). -/
def pre0 : Byte := 0x7E#8
/-- `PRE1` (R5). -/
def pre1 : Byte := 0xA1#8
/-- `FOOT0` (R5); no unit tests it (R52). -/
def foot0 : Byte := 0xAA#8
/-- `FOOT1` (R5). -/
def foot1 : Byte := 0x55#8
/-- The CRC polynomial in reflected form (R5). -/
def crcPoly : Half := 0xA001#16
/-- The CRC initial value (R5). -/
def crcInit : Half := 0xFFFF#16
/-- `C_MAX` (R5). -/
def cellMax : Nat := 32
/-- `T_MAX` (R5). -/
def tempMax : Nat := 6
/-- The first cell-voltage offset (R5, R54). -/
def cellBase : Nat := 34
/-- `FN_STATUS` (R5). -/
def fnStatus : Byte := 0x11#8
/-- `FN_DEVINFO` (R5). -/
def fnDevinfo : Byte := 0x12#8

/-! ## The status layout parameter (R55) -/

/-- The 23 fields after the temperature block, in the order of the table of R55. -/
inductive StatusField where
  | totalVoltage
  | current
  | soc
  | soh
  | chargeMosfetStatus
  | dischargeMosfetStatus
  | balancerStatus
  | capacityConfigured
  | capacityRemaining
  | cycleCapacity
  | power
  | totalRuntime
  | balancedCellBitmask
  | maxCellVoltage
  | maxVoltageCell
  | minCellVoltage
  | minVoltageCell
  | deltaCellVoltage
  | averageCellVoltage
  | accumulatedDischargeCapacity
  | accumulatedChargeCapacity
  | accumulatedDischargeTime
  | accumulatedChargeTime
deriving DecidableEq, Repr

/-- The 23 fields in the order of R55. -/
def StatusField.all : List StatusField :=
  [.totalVoltage, .current, .soc, .soh, .chargeMosfetStatus, .dischargeMosfetStatus, .balancerStatus,
   .capacityConfigured, .capacityRemaining, .cycleCapacity, .power, .totalRuntime,
   .balancedCellBitmask, .maxCellVoltage, .maxVoltageCell, .minCellVoltage, .minVoltageCell,
   .deltaCellVoltage, .averageCellVoltage, .accumulatedDischargeCapacity,
   .accumulatedChargeCapacity, .accumulatedDischargeTime, .accumulatedChargeTime]

/-- The list names every field. -/
theorem StatusField.mem_all (x : StatusField) : x ∈ StatusField.all := by cases x <;> decide

/-- The widths a layout entry may have: 1, 2 or 4 bytes (R55). -/
inductive FieldWidth where
  | one
  | two
  | four
deriving DecidableEq, Repr

/-- A width in bytes. -/
def FieldWidth.bytes : FieldWidth → Nat
  | .one => 1
  | .two => 2
  | .four => 4

/-- One entry `(field, disp, width, signed)` of `STATUS_LAYOUT` (R55). -/
structure LayoutEntry where
  field : StatusField
  disp : Nat
  width : FieldWidth
  signed : Bool
deriving DecidableEq, Repr

/-- `STATUS_LAYOUT` (R55): its entries and `size`, the displacement one past the last byte it covers.Whether
`size` may lie past the end of the last field is left open: DESIGN CHOICE (log 32), it may. -/
structure StatusLayout where
  entries : List LayoutEntry
  size : Nat
deriving DecidableEq, Repr

/-- The fields called signed (R129): `current` and `power`. -/
def StatusField.isSigned : StatusField → Bool
  | .current => true
  | .power => true
  | _ => false

/-- The width of the snapshot register that holds a field, in bytes (the types of R16). -/
def StatusField.registerBytes : StatusField → Nat
  | .chargeMosfetStatus | .dischargeMosfetStatus | .balancerStatus => 1
  | .capacityConfigured | .capacityRemaining | .cycleCapacity | .power | .totalRuntime
  | .balancedCellBitmask | .accumulatedDischargeCapacity | .accumulatedChargeCapacity
  | .accumulatedDischargeTime | .accumulatedChargeTime => 4
  | _ => 2

/-- The width the source itself states for a field, where it states one (last column of R55). -/
def StatusField.statedBytes : StatusField → Option Nat
  | .chargeMosfetStatus | .dischargeMosfetStatus | .balancerStatus => some 1
  | .power | .balancedCellBitmask => some 4
  | _ => none

/-- What R55 asks of one entry, that the value fits the register of R16 that receives it, and that a
signed field has one of the two widths R58 reads as signed (2 or 4 bytes; log 19). Any `size` at or above
every field's end conforms: DESIGN CHOICE (log 32). -/
abbrev LayoutEntry.Conforms (size : Nat) (e : LayoutEntry) : Prop :=
  e.disp + e.width.bytes ≤ size ∧ e.signed = e.field.isSigned ∧
    e.width.bytes ≤ e.field.registerBytes ∧
    e.field.statedBytes.getD e.width.bytes = e.width.bytes ∧ (e.signed = true → e.width ≠ .one)

/-- What R55 asks of `STATUS_LAYOUT`: the 23 fields in order, displacements strictly increasing with no
overlap, every entry conforming. -/
abbrev StatusLayout.Wf (L : StatusLayout) : Prop :=
  L.entries.map (·.field) = StatusField.all ∧
    L.entries.Pairwise (fun a b => a.disp + a.width.bytes ≤ b.disp) ∧
    ∀ e ∈ L.entries, e.Conforms L.size

/-- The entry of a field (R121: `L.disp(x)`, `L.width(x)`). -/
def StatusLayout.entry? (L : StatusLayout) (x : StatusField) : Option LayoutEntry :=
  L.entries.find? (fun e => e.field == x)

/-! ## The other parameters (R6) -/

/-- The three lookup tables (R62). -/
inductive LookupTable where
  | charge
  | discharge
  | balancer
deriving DecidableEq, Repr

/-- `DEVINFO_CRC_AT` (spec/92_eei_decisions.md D8): where the stored CRC of a device-info frame is read. -/
inductive CrcPlace where
  | declared
  | actual
deriving DecidableEq, Repr

/-- `render_duration` (D15): the reference body of R133, or another rendering, named by a number and not
interpreted (`Config.otherRendering`). -/
inductive DurationRendering where
  | reference
  | other (id : Nat)
deriving DecidableEq, Repr

/-- The parameters of R6. They are build-time configuration, not run-time registers (R21): no operation
writes them. -/
structure Config where
  /-- `CHUNK_MAX` (D2). -/
  chunkMax : Nat
  /-- `STATUS_LAYOUT` (D9, D10). -/
  layout : StatusLayout
  /-- `LUT_CHG` (D14); `none` is the mark *unused*. -/
  lutCharge : Vector (Option String) 16
  /-- `LUT_DIS` (D14). -/
  lutDischarge : Vector (Option String) 16
  /-- `LUT_BAL` (D14). -/
  lutBalancer : Vector (Option String) 11
  /-- `BATSTAT_NAMES` (D14). -/
  batteryStatusNames : List (Option String)
  /-- `DEVINFO_CRC_AT` (D8). -/
  devinfoCrcAt : CrcPlace
  /-- `render_duration` (D15). -/
  duration : DurationRendering
deriving DecidableEq, Repr

/-- What the spec asks of the parameters: `CHUNK_MAX >= 1` (D2), a conforming layout (R55), and
`BATSTAT_NAMES[1] = "Idle"` (D14). The table sizes of R62 are in the types. -/
abbrev Config.Wf (c : Config) : Prop :=
  1 ≤ c.chunkMax ∧ c.layout.Wf ∧ c.batteryStatusNames[1]? = some (some "Idle")

/-! ## Free values: no body, nothing can be proved of what they are -/

/-- DESIGN CHOICE (log 10): the text of a table entry, or `none` for *unused*; the spec prints no table. -/
opaque Config.lutText : LookupTable → Nat → Option String

/-- DESIGN CHOICE (log 10): the battery-status names other than code 1. -/
opaque Config.batteryStatusName : Nat → Option String

/-- DESIGN CHOICE (log 11): the renderings of a seconds count other than the reference one. -/
opaque Config.otherRendering : Nat → Nat → String

/-- DESIGN CHOICE (log 12): what `SNAP.STATUS` holds after the RESET operation (R180: unspecified). -/
opaque Config.freeStatus : Nat → Machine.StatusGroup

/-- DESIGN CHOICE (log 12): what `SNAP.DEVINFO` holds after the RESET operation (R180: unspecified). -/
opaque Config.freeDevInfo : Nat → Machine.DevInfoGroup

/-- DESIGN CHOICE (log 12): what `CRC.ACC` holds after the RESET operation (R180: unspecified). -/
opaque Config.freeCrcAcc : Nat → Half

/-- DESIGN CHOICE (log 12): what `V.*` holds after the RESET operation (R180: unspecified). -/
opaque Config.freeValidator : Nat → Machine.ValidatorScratch

/-- DESIGN CHOICE (log 12): what `D.*` holds after the RESET operation (R180: unspecified). -/
opaque Config.freeDecoder : Nat → Machine.DecoderScratch

end Sys2Proof
end

