-- ==== Sys2Proof/Machine/Checksum.lean ====
section
/-! DEFINITION. The Checksum unit's function (spec/40_checksum.md R80, bit order R32). -/
namespace Sys2Proof.Machine

/-- One of the eight iterations per byte: the low bit is tested before the shift (R80, R32). -/
def crcShift (acc : Half) : Half :=
  if acc.getLsbD 0 then (acc >>> 1) ^^^ crcPoly else acc >>> 1

/-- One input byte: XOR into the low byte, then eight iterations (R80). -/
def crcByte (acc : Half) (b : Byte) : Half :=
  Nat.repeat crcShift 8 (acc ^^^ b.setWidth 16)

/-- `k x`. The case split makes the kernel compute the running value before it goes on, so that a CRC
over a whole frame can be evaluated by `decide`; it changes nothing (`withValue_eq` in Laws/Checksum). -/
def withValue {α : Type} (x : Half) (k : Half → α) : α :=
  match x.toNat with
  | 0 => k 0#16
  | n + 1 => k (BitVec.ofNat 16 (n + 1))

/-- The loop of R80 from a running value: what `CRC.ACC` holds after the bytes, in ascending order. -/
def crcFrom (acc : Half) : List Byte → Half
  | [] => acc
  | b :: rest => withValue (crcByte acc b) fun acc' => crcFrom acc' rest

/-- `CRC16(b)` (R80): the loop from `0xFFFF`, nothing applied after it. -/
def crc16 (b : List Byte) : Half := crcFrom crcInit b

end Sys2Proof.Machine
end

