-- ==== Sys2Proof/Syntax.lean ====
section
/-! DEFINITION. The operations of the block, one constructor per row of spec/opcode_table.json, and the
form in which an operation stands at the engine's input before it is decoded. -/
namespace Sys2Proof

/-- The operations of the block (spec/00_scope.md section 5): three port operations, three unit
operations, and the frame operations, one per row of the function-code map (R53). A frame operation's
operand is the whole frame, its function code at byte 2 (R121, R150, R151). -/
inductive Instr where
  /-- `RESET` (R180). -/
  | reset
  /-- `FEED(chunk)` (R90). -/
  | feed (chunk : List Byte)
  /-- `SNAP.READ` (R40). -/
  | snapRead
  /-- `CRC16(b)` (R80). -/
  | crc16 (b : List Byte)
  /-- `VALIDATE(buf)` (R105). -/
  | validate (buf : List Byte)
  /-- `DECODE(fn, frame)` (R120). -/
  | decode (fn : Byte) (frame : List Byte)
  /-- `STATUS(frame)`, function code 0x11 (R121). -/
  | status (frame : List Byte)
  /-- `DEVINFO(frame)`, function code 0x12 (R150). -/
  | devinfo (frame : List Byte)
  /-- Function code 0x13 (R151). -/
  | fn13 (frame : List Byte)
  /-- Function code 0x14 (R151). -/
  | fn14 (frame : List Byte)
  /-- Function code 0x15 (R151). -/
  | fn15 (frame : List Byte)
  /-- Function code 0x16 (R151). -/
  | fn16 (frame : List Byte)
  /-- Function code 0x42 (R151). -/
  | fn42 (frame : List Byte)
  /-- Function code 0x43 (R151). -/
  | fn43 (frame : List Byte)
  /-- Function code 0x61 (R151). -/
  | fn61 (frame : List Byte)
  /-- Request command id 0x01 received inbound (R151). -/
  | reqStatus (frame : List Byte)
  /-- Request command id 0x02 received inbound (R151). -/
  | reqDevinfo (frame : List Byte)
  /-- Request command id 0x51 received inbound (R151). -/
  | reqWrite (frame : List Byte)
  /-- Every other function code (R60, R151). -/
  | fnxx (fn : Byte) (frame : List Byte)
deriving DecidableEq, Repr

/-- Which input of the block a request stands at. The spec gives port and unit operations no bit
encoding (opcode_table.json, D1), so the selection is a name, not bits: log 4. -/
inductive Select where
  /-- The port's RESET. -/
  | reset
  /-- The transport's FEED. -/
  | feed
  /-- The reader's SNAP.READ. -/
  | snapRead
  /-- The Checksum unit's input. -/
  | crc16
  /-- The FrameValidator's input. -/
  | validate
  /-- The FrameDecoder's dispatcher. -/
  | decode
  /-- The FrameDecoder's routines: the function code at byte 2 of the frame selects one (R53). -/
  | frame
deriving DecidableEq, Repr

/-- An operation as it stands at an input: the input and the operand bytes. -/
structure Request where
  select : Select
  bytes : List Byte
deriving DecidableEq, Repr

/-- Why a request is no operation. -/
inductive DecodeError where
  /-- Bytes were given with RESET or SNAP.READ, which take none (R63, R180, R40). Safe. -/
  | operandWhereNoneIsTaken
  /-- A frame with no byte 2, or a DECODE with no function code: there is no opcode to select by (R53). Safe. -/
  | noFunctionCode
deriving DecidableEq, Repr

/-- The inputs the block has on its port (D1): RESET, FEED, SNAP.READ. -/
def Select.isPort : Select → Bool
  | .reset | .feed | .snapRead => true
  | _ => false

/-- The input an operation is issued at. -/
def Instr.select : Instr → Select
  | .reset => .reset
  | .feed _ => .feed
  | .snapRead => .snapRead
  | .crc16 _ => .crc16
  | .validate _ => .validate
  | .decode _ _ => .decode
  | .status _ => .frame
  | .devinfo _ => .frame
  | .fn13 _ => .frame
  | .fn14 _ => .frame
  | .fn15 _ => .frame
  | .fn16 _ => .frame
  | .fn42 _ => .frame
  | .fn43 _ => .frame
  | .fn61 _ => .frame
  | .reqStatus _ => .frame
  | .reqDevinfo _ => .frame
  | .reqWrite _ => .frame
  | .fnxx _ _ => .frame

/-- The frame operand of a frame operation. -/
def Instr.frame? : Instr → Option (List Byte)
  | .reset => none
  | .feed _ => none
  | .snapRead => none
  | .crc16 _ => none
  | .validate _ => none
  | .decode _ _ => none
  | .status f => some f
  | .devinfo f => some f
  | .fn13 f => some f
  | .fn14 f => some f
  | .fn15 f => some f
  | .fn16 f => some f
  | .fn42 f => some f
  | .fn43 f => some f
  | .fn61 f => some f
  | .reqStatus f => some f
  | .reqDevinfo f => some f
  | .reqWrite f => some f
  | .fnxx _ f => some f

/-- The function code of a frame operation (the match column of opcode_table.json). -/
def Instr.functionCode? : Instr → Option Byte
  | .reset => none
  | .feed _ => none
  | .snapRead => none
  | .crc16 _ => none
  | .validate _ => none
  | .decode _ _ => none
  | .status _ => some 0x11#8
  | .devinfo _ => some 0x12#8
  | .fn13 _ => some 0x13#8
  | .fn14 _ => some 0x14#8
  | .fn15 _ => some 0x15#8
  | .fn16 _ => some 0x16#8
  | .fn42 _ => some 0x42#8
  | .fn43 _ => some 0x43#8
  | .fn61 _ => some 0x61#8
  | .reqStatus _ => some 0x01#8
  | .reqDevinfo _ => some 0x02#8
  | .reqWrite _ => some 0x51#8
  | .fnxx fn _ => some fn

end Sys2Proof
end

