-- ==== Sys2Proof/Machine/Wire.lean ====
section
/-! DEFINITION. The frame wire format (spec/30_encoding.md R50, R52, R56) and the pseudo-operations of
the script notation (R63, R64): `FRAME`, `FRAME*`, `SPLIT`, `BYTEWISE`, `WHOLE`. -/
namespace Sys2Proof.Machine

/-- `b[i..j)`: the elements at offsets `i <= k < j`, empty when `i >= j` (R8). -/
def slice (b : List Byte) (i j : Nat) : List Byte := (b.drop i).take (j - i)

/-- The bytes the CRC of a frame covers: offsets 1 up to the CRC (R50, R82). -/
def coveredBytes (fn : Byte) (addr : Half) (dlen : Byte) (payload : List Byte) : List Byte :=
  [pre1, fn, addr.lowByte, addr.highByte, dlen] ++ payload

/-- A frame of R50 with its address and length bytes as given: preamble, covered bytes, CRC low byte
first, footer. -/
def frameWith (fn : Byte) (addr : Half) (dlen : Byte) (payload : List Byte) : List Byte :=
  let body := coveredBytes fn addr dlen payload
  let c := crc16 body
  pre0 :: body ++ [c.lowByte, c.highByte, foot0, foot1]

/-- `FRAME*(fn, L, payload)` (R64): the length byte forced to `L`. -/
def frameStar (fn dlen : Byte) (payload : List Byte) : List Byte := frameWith fn 0#16 dlen payload

/-- `FRAME(fn, payload)` (R64), for payloads of at most 255 bytes. -/
def frameOf (fn : Byte) (payload : List Byte) : List Byte :=
  frameStar fn (BitVec.ofNat 8 payload.length) payload

/-- The fixed 10-byte request frame of R56: function, address, one value byte, CRC, footer. -/
def requestFrame (fn : Byte) (addr : Half) (value : Byte) : List Byte := frameWith fn addr value []

/-- `n` pieces of `k` bytes, the last shorter if need be, none empty. -/
def pieces (k : Nat) : Nat → List Byte → List (List Byte)
  | 0, _ => []
  | _ + 1, [] => []
  | n + 1, b :: bs => (b :: bs).take k :: pieces k n ((b :: bs).drop k)

/-- The chunks of `SPLIT(k, bytes)`, `k >= 1` (R64). -/
def splitChunks (k : Nat) (bytes : List Byte) : List (List Byte) := pieces k bytes.length bytes

/-- The chunks of `BYTEWISE(bytes)` (R64). -/
def bytewiseChunks (bytes : List Byte) : List (List Byte) := bytes.map fun b => [b]

/-- A FEED as it stands at the port (R63). -/
def feedRequest (chunk : List Byte) : Request := ⟨.feed, chunk⟩

/-- `WHOLE(bytes)` (R64): one FEED. -/
def wholeScript (bytes : List Byte) : List Request := [feedRequest bytes]

/-- `SPLIT(k, bytes)` (R64): FEEDs of consecutive `k`-byte pieces. -/
def splitScript (k : Nat) (bytes : List Byte) : List Request := (splitChunks k bytes).map feedRequest

/-- `BYTEWISE(bytes)` (R64). -/
def bytewiseScript (bytes : List Byte) : List Request := (bytewiseChunks bytes).map feedRequest

/-- The frame that carries an opcode-table word: byte 0 of the word is the function code (frame byte 2),
its further bytes are frame bytes 3, 4, 5 and the payload the length byte declares, and every bit above
`nbits` is 0; preamble, CRC and footer are the wire format's own (log 5). -/
def frameOfWord (nbits w : Nat) : List Byte :=
  let v := w % 2 ^ nbits
  let byte := fun k => BitVec.ofNat 8 (v >>> (8 * k))
  let dlen := byte 3
  frameWith (byte 0) (BitVec.ofNat 16 (v >>> 8)) dlen
    ((List.range dlen.toNat).map fun k => byte (4 + k))

end Sys2Proof.Machine
end

