-- ==== Sys2Proof/Machine/Operands.lean ====
section
/-! DEFINITION. Operand assembly (spec/30_encoding.md R58): little-endian reads (R9, R31), signs (R7),
the layout fields (R121, R129), the lookups (R131, R132), the duration text (R133) and the exact scaled
values (R16, R130). -/
namespace Sys2Proof.Machine

/-! ## Reads -/

/-- `MemRead(f, off, n)` (R9): `f[off] + 256*f[off+1] + ...`, defined only inside the sequence (R35). -/
def memRead (f : List Byte) (off : Nat) : Nat → Option Nat
  | 0 => some 0
  | n + 1 =>
    match f[off]?, memRead f (off + 1) n with
    | some b, some r => some (b.toNat + 256 * r)
    | _, _ => none

/-- `rd8(f, o)` (R9). -/
def rd8 (f : List Byte) (off : Nat) : Option Byte := (memRead f off 1).map (BitVec.ofNat 8)

/-- `rd16(f, o)` (R9, R31). -/
def rd16 (f : List Byte) (off : Nat) : Option Half := (memRead f off 2).map (BitVec.ofNat 16)

/-- `rd32(f, o)` (R9, R31). -/
def rd32 (f : List Byte) (off : Nat) : Option Word := (memRead f off 4).map (BitVec.ofNat 32)

/-- `k` consecutive 16-bit values from an offset on (R125, R126). -/
def readHalves (f : List Byte) (off : Nat) : Nat → Option (List Half)
  | 0 => some []
  | k + 1 =>
    match rd16 f off, readHalves f (off + 2) k with
    | some h, some rest => some (h :: rest)
    | _, _ => none

/-- Sixteen bytes copied unchanged from an offset on (R57, R150). -/
def readBytes16 (f : List Byte) (off : Nat) : Option (Vector Byte 16) :=
  if h : (slice f off (off + 16)).length = 16 then some ⟨(slice f off (off + 16)).toArray, by simpa using h⟩
  else none

/-- Widen to 32 bits: `sext_32` when the entry is signed, `zext_32` when not (R7, R58). -/
def widen {n : Nat} (signed : Bool) (x : BitVec n) : Word :=
  if signed then x.signExtend 32 else x.setWidth 32

/-- The bytes of one layout entry as a 32-bit value (R58 steps 1 and 2). -/
def readEntry (f : List Byte) (base : Nat) (e : LayoutEntry) : Option Word :=
  match e.width with
  | .one => (rd8 f (base + e.disp)).map (widen e.signed)
  | .two => (rd16 f (base + e.disp)).map (widen e.signed)
  | .four => (rd32 f (base + e.disp)).map (widen e.signed)

/-- `rdf(x)` (R121): field `x` at `D.BASE + L.disp(x)`. -/
def readField (L : StatusLayout) (f : List Byte) (base : Nat) (x : StatusField) : Option Word :=
  match L.entry? x with
  | some e => readEntry f base e
  | none => none

/-! ## Signed readings -/

/-- `as_i16(u)` (R7). -/
def asI16 (u : Nat) : Int := if u < 32768 then u else (u : Int) - 65536

/-- `as_i32(u)` (R7). -/
def asI32 (u : Nat) : Int := if u < 2147483648 then u else (u : Int) - 4294967296

/-! ## Lookups -/

/-- The text for a code outside its table or an unused slot (R62, R131). -/
def unknownText : String := "Unknown"

/-- `lut(TABLE, SIZE, code)` (R131): the entry's text, or `Unknown`; it cannot fail. -/
def lut {n : Nat} (table : Vector (Option String) n) (code : Byte) : String :=
  match table[code.toNat]? with
  | some (some text) => text
  | _ => unknownText

/-- The name of a battery status (R132): `BATSTAT_NAMES` looked up as R131 says. -/
def batteryStatusName (cfg : Config) (code : Byte) : String :=
  match cfg.batteryStatusNames[code.toNat]? with
  | some (some text) => text
  | _ => unknownText

/-! ## The duration text -/

/-- The units of R133: years of 365 days, days, hours; minutes and seconds discarded. -/
def durationUnits (s : Nat) : List (Nat × String) :=
  [(s / 31536000, "y"), (s % 31536000 / 86400, "d"), (s % 86400 / 3600, "h")]

/-- A number in decimal with no padding, followed by its unit's letter (R133). -/
def unitText (u : Nat × String) : String := String.ofList (Nat.toDigits 10 u.1) ++ u.2

/-- Texts joined by one space (R133). -/
def joinWithSpaces : List String → String
  | [] => ""
  | [t] => t
  | t :: u :: rest => t ++ " " ++ joinWithSpaces (u :: rest)

/-- The reference body of `render_duration` (R133). -/
def referenceDuration (s : Nat) : String :=
  joinWithSpaces (((durationUnits s).dropWhile fun u => u.1 == 0).map unitText)

/-- `render_duration(s)` under a configuration (R133, D15). -/
def renderDuration (r : DurationRendering) (s : Word) : String :=
  match r with
  | .reference => referenceDuration s.toNat
  | .other id => Config.otherRendering id s.toNat

/-! ## Raw and scaled values -/

/-- The register of a layout field as R16 reads it: the raw integer. -/
def StatusGroup.raw (g : StatusGroup) : StatusField → Int
  | .totalVoltage => g.totalVoltage.toNat
  | .current => g.current.toInt
  | .soc => g.soc.toNat
  | .soh => g.soh.toNat
  | .chargeMosfetStatus => g.chargeMosfetStatus.toNat
  | .dischargeMosfetStatus => g.dischargeMosfetStatus.toNat
  | .balancerStatus => g.balancerStatus.toNat
  | .capacityConfigured => g.capacityConfigured.toNat
  | .capacityRemaining => g.capacityRemaining.toNat
  | .cycleCapacity => g.cycleCapacity.toNat
  | .power => g.power.toInt
  | .totalRuntime => g.totalRuntime.toNat
  | .balancedCellBitmask => g.balancedCellBitmask.toNat
  | .maxCellVoltage => g.maxCellVoltage.toNat
  | .maxVoltageCell => g.maxVoltageCell.toNat
  | .minCellVoltage => g.minCellVoltage.toNat
  | .minVoltageCell => g.minVoltageCell.toNat
  | .deltaCellVoltage => g.deltaCellVoltage.toNat
  | .averageCellVoltage => g.averageCellVoltage.toNat
  | .accumulatedDischargeCapacity => g.accumulatedDischargeCapacity.toNat
  | .accumulatedChargeCapacity => g.accumulatedChargeCapacity.toNat
  | .accumulatedDischargeTime => g.accumulatedDischargeTime.toNat
  | .accumulatedChargeTime => g.accumulatedChargeTime.toNat

/-- The decimal exponent `k` of a field's scale `10^-k` (the table of R16, R130, D13); `none` for the
fields R16 gives no scale: the three codes and the bitmask. The three seconds counts, which R130 calls raw,
have scale 1 in R16: the same number. -/
def scalePlaces : StatusField → Option Nat
  | .totalVoltage => some 2
  | .current => some 1
  | .soc | .soh | .power | .maxVoltageCell | .minVoltageCell
  | .totalRuntime | .accumulatedDischargeTime | .accumulatedChargeTime => some 0
  | .capacityConfigured | .capacityRemaining => some 6
  | .cycleCapacity | .maxCellVoltage | .minCellVoltage | .deltaCellVoltage | .averageCellVoltage
  | .accumulatedDischargeCapacity | .accumulatedChargeCapacity => some 3
  | .chargeMosfetStatus | .dischargeMosfetStatus | .balancerStatus | .balancedCellBitmask => none

/-- `raw * 10^-k`, exact (R16, D13). -/
def scaled (raw : Int) (places : Nat) : ℚ := (raw : ℚ) / (10 : ℚ) ^ places

/-- The physical value of a layout field (R16, R130); `none` where R16 gives no scale. -/
def StatusGroup.physical (g : StatusGroup) (x : StatusField) : Option ℚ :=
  (scalePlaces x).map (scaled (g.raw x))

/-- The cell voltages in volts: raw times 0.001 (R125). -/
def StatusGroup.cellVolts (g : StatusGroup) : List ℚ := g.cellVoltage.map fun h => scaled h.toNat 3

/-- The temperatures in degrees Celsius: raw times 1 (R126). -/
def StatusGroup.degrees (g : StatusGroup) : List ℚ := g.temperature.map fun h => scaled h.toInt 0

/-- The MOSFET temperature in degrees Celsius, where present: raw times 1 (R16, R127). -/
def StatusGroup.mosfetDegrees (g : StatusGroup) : Option ℚ :=
  g.mosfetTemperature.map fun h => scaled h.toInt 0

/-- The balancer temperature in degrees Celsius, where present: raw times 1 (R16, R127). -/
def StatusGroup.balancerDegrees (g : StatusGroup) : Option ℚ :=
  g.balancerTemperature.map fun h => scaled h.toInt 0

end Sys2Proof.Machine
end

