-- ==== Sys2Proof/Decode.lean ====
section
/-! DEFINITION. Decoding a request into an operation, and encoding an operation as a request, both from
the function-code map (spec/30_encoding.md R53, opcode_table.json). -/
namespace Sys2Proof

/-- The operation a function code selects on a frame, matched on all eight bits (R53, R60): no code is
illegal, and every code not listed is `FNxx`. -/
def selectFrameOperation (fn : Byte) (frame : List Byte) : Instr :=
  if fn = 0x11#8 then .status frame
  else if fn = 0x12#8 then .devinfo frame
  else if fn = 0x13#8 then .fn13 frame
  else if fn = 0x14#8 then .fn14 frame
  else if fn = 0x15#8 then .fn15 frame
  else if fn = 0x16#8 then .fn16 frame
  else if fn = 0x42#8 then .fn42 frame
  else if fn = 0x43#8 then .fn43 frame
  else if fn = 0x61#8 then .fn61 frame
  else if fn = 0x01#8 then .reqStatus frame
  else if fn = 0x02#8 then .reqDevinfo frame
  else if fn = 0x51#8 then .reqWrite frame
  else .fnxx fn frame

/-- A frame as an operation: the opcode is frame byte 2 (R50, R53). -/
def decodeFrame (frame : List Byte) : Except DecodeError Instr :=
  match frame[2]? with
  | some fn => .ok (selectFrameOperation fn frame)
  | none => .error .noFunctionCode

/-- Operations that take no operand (R63, R180, R40). -/
def decodeBare (i : Instr) (bytes : List Byte) : Except DecodeError Instr :=
  match bytes with
  | [] => .ok i
  | _ :: _ => .error .operandWhereNoneIsTaken

/-- The operation a request asks for: total on any bytes, refusing by name. -/
def decode (r : Request) : Except DecodeError Instr :=
  match r.select with
  | .reset => decodeBare .reset r.bytes
  | .feed => .ok (.feed r.bytes)
  | .snapRead => decodeBare .snapRead r.bytes
  | .crc16 => .ok (.crc16 r.bytes)
  | .validate => .ok (.validate r.bytes)
  | .decode =>
    match r.bytes with
    | fn :: frame => .ok (.decode fn frame)
    | [] => .error .noFunctionCode
  | .frame => decodeFrame r.bytes

/-- A frame with its function code written at byte 2 (R50). -/
def withFunctionCode (fn : Byte) (frame : List Byte) : List Byte := frame.set 2 fn

/-- The request that asks for an operation; a frame operation's code is written from the match column of
the opcode table. -/
def encode : Instr → Request
  | .reset => ⟨.reset, []⟩
  | .feed chunk => ⟨.feed, chunk⟩
  | .snapRead => ⟨.snapRead, []⟩
  | .crc16 b => ⟨.crc16, b⟩
  | .validate buf => ⟨.validate, buf⟩
  | .decode fn frame => ⟨.decode, fn :: frame⟩
  | .status f => ⟨.frame, withFunctionCode 0x11#8 f⟩
  | .devinfo f => ⟨.frame, withFunctionCode 0x12#8 f⟩
  | .fn13 f => ⟨.frame, withFunctionCode 0x13#8 f⟩
  | .fn14 f => ⟨.frame, withFunctionCode 0x14#8 f⟩
  | .fn15 f => ⟨.frame, withFunctionCode 0x15#8 f⟩
  | .fn16 f => ⟨.frame, withFunctionCode 0x16#8 f⟩
  | .fn42 f => ⟨.frame, withFunctionCode 0x42#8 f⟩
  | .fn43 f => ⟨.frame, withFunctionCode 0x43#8 f⟩
  | .fn61 f => ⟨.frame, withFunctionCode 0x61#8 f⟩
  | .reqStatus f => ⟨.frame, withFunctionCode 0x01#8 f⟩
  | .reqDevinfo f => ⟨.frame, withFunctionCode 0x02#8 f⟩
  | .reqWrite f => ⟨.frame, withFunctionCode 0x51#8 f⟩
  | .fnxx fn f => ⟨.frame, withFunctionCode fn f⟩

/-- The operation the decoder reads from an opcode-table word, laid out as `frameOfWord` says (log 5). -/
def decodeTableWord (nbits w : Nat) : Option Instr :=
  (decode ⟨.frame, Machine.frameOfWord nbits w⟩).toOption

end Sys2Proof
end

