-- ==== Sys2Proof/Machine/Reference.lean ====
section
/-! DEFINITION. The reference values of the open parameters (spec/92_eei_decisions.md): `LAYOUT_REF`
(spec/30_encoding.md R65), `LAYOUT_PACKED` (R66), and the configuration the model carries at reset. -/
namespace Sys2Proof.Machine

/-- `LAYOUT_REF` (R65), from general knowledge (GK2): log 8. -/
def layoutRef : StatusLayout where
  size := 74
  entries :=
    [⟨.totalVoltage, 0, .two, false⟩, ⟨.current, 2, .two, true⟩, ⟨.soc, 4, .two, false⟩,
     ⟨.soh, 6, .two, false⟩, ⟨.chargeMosfetStatus, 8, .one, false⟩,
     ⟨.dischargeMosfetStatus, 9, .one, false⟩, ⟨.balancerStatus, 10, .one, false⟩,
     ⟨.capacityConfigured, 12, .four, false⟩, ⟨.capacityRemaining, 16, .four, false⟩,
     ⟨.cycleCapacity, 20, .four, false⟩, ⟨.power, 24, .four, true⟩,
     ⟨.totalRuntime, 28, .four, false⟩, ⟨.balancedCellBitmask, 32, .four, false⟩,
     ⟨.maxCellVoltage, 36, .two, false⟩, ⟨.maxVoltageCell, 38, .two, false⟩,
     ⟨.minCellVoltage, 40, .two, false⟩, ⟨.minVoltageCell, 42, .two, false⟩,
     ⟨.deltaCellVoltage, 44, .two, false⟩, ⟨.averageCellVoltage, 46, .two, false⟩,
     ⟨.accumulatedDischargeCapacity, 58, .four, false⟩,
     ⟨.accumulatedChargeCapacity, 62, .four, false⟩,
     ⟨.accumulatedDischargeTime, 66, .four, false⟩, ⟨.accumulatedChargeTime, 70, .four, false⟩]

/-- `LAYOUT_PACKED` (R66): the same fields with no uninterpreted bytes. -/
def layoutPacked : StatusLayout where
  size := 63
  entries :=
    [⟨.totalVoltage, 0, .two, false⟩, ⟨.current, 2, .two, true⟩, ⟨.soc, 4, .two, false⟩,
     ⟨.soh, 6, .two, false⟩, ⟨.chargeMosfetStatus, 8, .one, false⟩,
     ⟨.dischargeMosfetStatus, 9, .one, false⟩, ⟨.balancerStatus, 10, .one, false⟩,
     ⟨.capacityConfigured, 11, .four, false⟩, ⟨.capacityRemaining, 15, .four, false⟩,
     ⟨.cycleCapacity, 19, .four, false⟩, ⟨.power, 23, .four, true⟩,
     ⟨.totalRuntime, 27, .four, false⟩, ⟨.balancedCellBitmask, 31, .four, false⟩,
     ⟨.maxCellVoltage, 35, .two, false⟩, ⟨.maxVoltageCell, 37, .two, false⟩,
     ⟨.minCellVoltage, 39, .two, false⟩, ⟨.minVoltageCell, 41, .two, false⟩,
     ⟨.deltaCellVoltage, 43, .two, false⟩, ⟨.averageCellVoltage, 45, .two, false⟩,
     ⟨.accumulatedDischargeCapacity, 47, .four, false⟩,
     ⟨.accumulatedChargeCapacity, 51, .four, false⟩,
     ⟨.accumulatedDischargeTime, 55, .four, false⟩, ⟨.accumulatedChargeTime, 59, .four, false⟩]

/-- The battery-status names at reset: `Idle` for code 1 (D14), every other entry open (log 10). -/
def batteryStatusNamesRef : List (Option String) :=
  Config.batteryStatusName 0 :: some "Idle" ::
    (List.range 254).map (fun k => Config.batteryStatusName (k + 2))

/-- The configuration carried at reset: `CHUNK_MAX = 265` (D2), `LAYOUT_REF` (D9), `DEVINFO_CRC_AT =
declared` (D8), the reference `render_duration` (D15), open table texts (D14). -/
def configRef : Config where
  chunkMax := 265
  layout := layoutRef
  lutCharge := Vector.ofFn fun i => Config.lutText .charge i
  lutDischarge := Vector.ofFn fun i => Config.lutText .discharge i
  lutBalancer := Vector.ofFn fun i => Config.lutText .balancer i
  batteryStatusNames := batteryStatusNamesRef
  devinfoCrcAt := .declared
  duration := .reference

end Sys2Proof.Machine
end

