-- ==== Sys2Proof/Machine/State.lean ====
section
/-! DEFINITION. The state of the engine (spec/10_state.md), the reasons a step can stop, and the state
right after reset (R24). -/
namespace Sys2Proof.Machine

/-- The faults: reads the spec tells a model to treat as a fault (R18). They are raised by
`State.readStatus` and `State.readDevinfo` only; SNAP.READ leaves such a group out (R40), so no operation
ends in one. -/
inductive Fault where
  /-- A read of `SNAP.STATUS` while `SNAP.STATUS_VALID` is 0 (R18). Raised by `State.readStatus`. Safe. -/
  | statusGroupNotValid
  /-- A read of `SNAP.DEVINFO` while `SNAP.DEVINFO_VALID` is 0 (R18). Raised by `State.readDevinfo`. Safe. -/
  | devinfoGroupNotValid
deriving DecidableEq, Repr

/-- The refusals: what is outside the block's contract. -/
inductive Refusal where
  /-- The instruction has no meaning yet. Raised by `exec` only. Safe. -/
  | notModelled (mnemonic : String)
  /-- A FEED whose chunk is longer than `CHUNK_MAX` (spec/92_eei_decisions.md D2: refuse). Raised by FEED. Safe. -/
  | chunkLongerThanChunkMax
  /-- What stands at the input is no operation. Raised by `step`. Safe. -/
  | noSuchOperation (e : DecodeError)
deriving DecidableEq, Repr

/-- The engine's state: the persistent state of R10 (`fb`, `snap`), the transient registers of R13 to
R15, the event output (R20), the value returned to the issuer, and what the model carries beside them
(the configuration, the operations waiting, the counter of free values). -/
structure State where
  /-- The parameters of R6; no operation writes them (log 6). -/
  cfg : Config
  /-- `FB`, the frame buffer: its bytes in arrival order (R11). -/
  fb : List Byte
  /-- `SNAP` (R16 to R18). -/
  snap : Snapshot
  /-- `CRC.ACC` (R13). -/
  crcAcc : Half
  /-- `V.*` (R14). -/
  v : ValidatorScratch
  /-- `D.*` (R15). -/
  d : DecoderScratch
  /-- The event output: the record of the FEED just done, or idle (R20, R24; log 16). -/
  event : Option FeedResult
  /-- The value the last operation returned to its issuer (log 17). -/
  returned : Returned
  /-- The MODEL's own: the operations waiting at the input, first to be accepted first (R38; log 1). -/
  pending : List Request
  /-- The MODEL's own: how many times a free value has been drawn (log 12). -/
  freeCount : Nat
deriving DecidableEq, Repr

/-- `SNAP.STATUS` at reset: R24 leaves it unspecified; the model names zeros (log 13). -/
def StatusGroup.zero : StatusGroup where
  batteryStatus := 0
  tempCount := 0
  cellCount := 0
  cellVoltage := []
  temperature := []
  mosfetTemperature := none
  balancerTemperature := none
  totalVoltage := 0
  current := 0
  soc := 0
  soh := 0
  chargeMosfetStatus := 0
  chargeMosfetText := ""
  dischargeMosfetStatus := 0
  dischargeMosfetText := ""
  balancerStatus := 0
  balancerText := ""
  capacityConfigured := 0
  capacityRemaining := 0
  cycleCapacity := 0
  power := 0
  totalRuntime := 0
  totalRuntimeText := ""
  balancedCellBitmask := 0
  maxCellVoltage := 0
  maxVoltageCell := 0
  minCellVoltage := 0
  minVoltageCell := 0
  deltaCellVoltage := 0
  averageCellVoltage := 0
  accumulatedDischargeCapacity := 0
  accumulatedChargeCapacity := 0
  accumulatedDischargeTime := 0
  accumulatedDischargeTimeText := ""
  accumulatedChargeTime := 0
  accumulatedChargeTimeText := ""

/-- The snapshot at reset: both valid bits 0 (R24), the fields as log 13 names them. -/
def Snapshot.atReset : Snapshot where
  statusValid := false
  status := StatusGroup.zero
  devinfoValid := false
  devinfo := ⟨Vector.replicate 16 0, Vector.replicate 16 0⟩

/-- The machine right after reset (R24): buffer empty, both valid bits 0, event output idle; the fields
R24 leaves unspecified as logs 13 and 14 name them; nothing waiting at the input. -/
def State.reset : State where
  cfg := configRef
  fb := []
  snap := Snapshot.atReset
  crcAcc := 0
  v := ⟨0, 0, 0, 0, 0⟩
  d := ⟨0, 0, 0, 0, 0⟩
  event := none
  returned := .nothing
  pending := []
  freeCount := 0

end Sys2Proof.Machine
end

