-- ==== Sys2Proof/Machine/Ops.lean ====
section
/-! DEFINITION. The named operations over the engine's state: the buffer writes (spec/20_memory.md R37),
the scratch registers, the snapshot commit (R19, R37) and its reads (R18), the outputs, the fetch of the
next operation, RESET's effect, and the one way an attempt on a candidate ends (R95, R167). -/
namespace Sys2Proof.Machine

/-! ## The buffer -/

/-- One byte of a buffer or frame by its offset; an offset outside has no byte (R30, R35). -/
def readByte (b : List Byte) (off : Nat) : Option Byte := b[off]?

/-- The buffer as (address, byte) cells, the address being the offset (R30). -/
def bufferCells (b : List Byte) : List Host.Cell := b.zipIdx.map fun p => (p.2, p.1)

/-- The canonical form of such cells: addresses strictly rising. -/
def Memory.wf (cells : List Host.Cell) : Bool := decide (cells.Pairwise fun a b => a.1 < b.1)

/-- `FB.clear()` (R37). -/
def State.clearBuffer (s : State) : State := { s with fb := [] }

/-- `FB.append(c)` (R37). -/
def State.appendBuffer (s : State) (chunk : List Byte) : State := { s with fb := s.fb ++ chunk }

/-! ## Scratch registers -/

/-- `CRC.ACC <- c` (R13). -/
def State.setCrcAcc (s : State) (c : Half) : State := { s with crcAcc := c }

/-- `V.* <- v` (R14). -/
def State.setValidator (s : State) (v : ValidatorScratch) : State := { s with v := v }

/-- `D.* <- d` (R15). -/
def State.setDecoder (s : State) (d : DecoderScratch) : State := { s with d := d }

/-! ## The snapshot -/

/-- `SNAP.STATUS <- g ; SNAP.STATUS_VALID <- 1`, one atomic commit (R134, R19). -/
def State.commitStatus (s : State) (g : StatusGroup) : State :=
  { s with snap := { s.snap with status := g, statusValid := true } }

/-- `SNAP.DEVINFO <- g ; SNAP.DEVINFO_VALID <- 1`, one atomic commit (R150, R19). -/
def State.commitDevinfo (s : State) (g : DevInfoGroup) : State :=
  { s with snap := { s.snap with devinfo := g, devinfoValid := true } }

/-- Reading the status group: a fault while its valid bit is 0 (R18). -/
def State.readStatus (s : State) : Except Fault StatusGroup :=
  if s.snap.statusValid then .ok s.snap.status else .error .statusGroupNotValid

/-- Reading the device-info group: a fault while its valid bit is 0 (R18). -/
def State.readDevinfo (s : State) : Except Fault DevInfoGroup :=
  if s.snap.devinfoValid then .ok s.snap.devinfo else .error .devinfoGroupNotValid

/-! ## Outputs -/

/-- An operation other than FEED ends: the event output is idle and the value goes to the issuer. -/
def State.returning (s : State) (r : Returned) : State := { s with event := none, returned := r }

/-- A FEED ends: `emit r ; return r` (R90, R20). -/
def State.emitting (s : State) (r : FeedResult) : State :=
  { s with event := some r, returned := .feed r }

/-! ## The exceptional outcomes

Taking one saves nothing, goes nowhere and changes no mode (R167): it ends the attempt on the candidate,
empties the buffer and is reported. There is no return from it (R168). -/

/-- `frame <- FB ; FB.clear()`: how every validation attempt, passed or failed, ends (R90, R95). -/
def State.endAttempt (s : State) : List Byte × State := (s.fb, s.clearBuffer)

/-! ## RESET -/

/-- RESET's effect (R180): buffer empty, both valid bits 0, every snapshot field and scratch register
unspecified, a free value each time (log 12). -/
def State.resetOperation (s : State) : State :=
  { s with
    fb := []
    snap :=
      { statusValid := false
        status := Config.freeStatus s.freeCount
        devinfoValid := false
        devinfo := Config.freeDevInfo s.freeCount }
    crcAcc := Config.freeCrcAcc s.freeCount
    v := Config.freeValidator s.freeCount
    d := Config.freeDecoder s.freeCount
    freeCount := s.freeCount + 1 }

/-! ## Fetch -/

/-- The next operation the engine accepts, and the state with it taken off the input (R38). -/
def State.fetch (s : State) : Option (Request × State) :=
  match s.pending with
  | [] => none
  | r :: rest => some (r, { s with pending := rest })

end Sys2Proof.Machine
end

