-- ==== Sys2Proof/Machine/Validator.lean ====
section
/-! DEFINITION. The Checksum and FrameValidator units as they act on the state (spec/40_checksum.md R80,
spec/42_validator.md R105 to R114). -/
namespace Sys2Proof.Machine

/-- CRC16 as a unit: `CRC.ACC` is left at the result, which is returned (R80, R13). -/
def runCrc16 (b : List Byte) (s : State) : State × Half := (s.setCrcAcc (crc16 b), crc16 b)

/-- `frame_len = 6 + data_len + 4`, without wrap (R107). -/
def frameLen (dlen : Byte) : Nat := 6 + dlen.toNat + 4

/-- Where the stored CRC is read: where the declared length puts it, or, for a device-info frame under
`DEVINFO_CRC_AT = actual`, before the last two bytes held (R109, D8). -/
def storedCrcOffset (cfg : Config) (fn : Byte) (flen n : Nat) : Nat :=
  if fn = fnDevinfo ∧ cfg.devinfoCrcAt = .actual then n - 4 else flen - 4

/-- The CRC check of VALIDATE (R109): range and comparison by the declared length. -/
def checkCrc (buf : List Byte) (fn : Byte) (flen : Nat) (s : State) : State × ValidateResult :=
  let p := runCrc16 (slice buf 1 (flen - 4)) s
  match rd16 buf (storedCrcOffset s.cfg fn flen buf.length) with
  | some stored =>
    (p.1.setValidator { s.v with crcComputed := p.2, crcStored := stored },
      if p.2 = stored then .ok fn else .rejected .crcMismatch)
  | none => (p.1.setValidator { s.v with crcComputed := p.2 }, .rejected .malformed)

/-- The checks after the header bytes are read, in the order of R114: length with its exemption for
0x12 (R108), device-info range (R112), CRC (R109). -/
def checkFrame (buf : List Byte) (fn : Byte) (flen : Nat) (s : State) : State × ValidateResult :=
  if fn ≠ fnDevinfo ∧ flen ≠ buf.length then (s, .rejected .lengthMismatch)
  else if fn = fnDevinfo ∧ buf.length < flen then (s, .rejected .malformed)
  else checkCrc buf fn flen s

/-- `VALIDATE(buf)` (R105): shortness first (R111), then the header bytes (R106), then the checks. It
writes scratch only. -/
def runValidate (buf : List Byte) (s : State) : State × ValidateResult :=
  if buf.length < 6 then (s, .rejected .malformed)
  else
    match rd8 buf 2, rd8 buf 5 with
    | some fn, some dlen =>
      checkFrame buf fn (frameLen dlen)
        (s.setValidator { s.v with fn := fn, dlen := dlen, flen := BitVec.ofNat 16 (frameLen dlen) })
    | _, _ => (s, .rejected .malformed)

end Sys2Proof.Machine
end

