-- ==== Sys2Proof/Machine/Decoder.lean ====
section
/-! DEFINITION. The FrameDecoder unit (spec/43_decoder_status.md, spec/44_decoder_devinfo_unhandled.md):
the status, device-info and unhandled routines and the dispatcher. -/
namespace Sys2Proof.Machine

/-! ## STATUS -/

/-- The defensive re-check passes: `len(frame) = 6 + frame[5] + 4`, and byte 5 exists (R122). -/
def statusLengthHolds (f : List Byte) : Bool :=
  match rd8 f 5 with
  | some dlen => f.length == frameLen dlen
  | none => false

/-- `D.OFF = 2*C + 2*T` (R128). -/
def blockOffset (t c : Byte) : Nat := 2 * c.toNat + 2 * t.toNat

/-- `D.BASE = 34 + D.OFF` (R128). -/
def fieldBase (t c : Byte) : Nat := cellBase + blockOffset t c

/-- The copy of reading `T-2` or `T-1`, absent when `T < 2` (R127): `back` counts from the end. -/
def extraTemperature (temps : List Half) (back : Nat) : Option Half :=
  if 2 ≤ temps.length then temps[temps.length - back]? else none

/-- Every field of `SNAP.STATUS` from the header bytes, the two sequences and the 23 fields as read (R121,
R127 to R133). -/
def buildStatusGroup (cfg : Config) (st t c : Byte) (cells temps : List Half)
    (w : StatusField → Word) : StatusGroup where
  batteryStatus := st
  tempCount := t
  cellCount := c
  cellVoltage := cells
  temperature := temps
  mosfetTemperature := extraTemperature temps 2
  balancerTemperature := extraTemperature temps 1
  totalVoltage := (w .totalVoltage).setWidth 16
  current := (w .current).setWidth 16
  soc := (w .soc).setWidth 16
  soh := (w .soh).setWidth 16
  chargeMosfetStatus := (w .chargeMosfetStatus).setWidth 8
  chargeMosfetText := lut cfg.lutCharge ((w .chargeMosfetStatus).setWidth 8)
  dischargeMosfetStatus := (w .dischargeMosfetStatus).setWidth 8
  dischargeMosfetText := lut cfg.lutDischarge ((w .dischargeMosfetStatus).setWidth 8)
  balancerStatus := (w .balancerStatus).setWidth 8
  balancerText := lut cfg.lutBalancer ((w .balancerStatus).setWidth 8)
  capacityConfigured := w .capacityConfigured
  capacityRemaining := w .capacityRemaining
  cycleCapacity := w .cycleCapacity
  power := w .power
  totalRuntime := w .totalRuntime
  totalRuntimeText := renderDuration cfg.duration (w .totalRuntime)
  balancedCellBitmask := w .balancedCellBitmask
  maxCellVoltage := (w .maxCellVoltage).setWidth 16
  maxVoltageCell := (w .maxVoltageCell).setWidth 16
  minCellVoltage := (w .minCellVoltage).setWidth 16
  minVoltageCell := (w .minVoltageCell).setWidth 16
  deltaCellVoltage := (w .deltaCellVoltage).setWidth 16
  averageCellVoltage := (w .averageCellVoltage).setWidth 16
  accumulatedDischargeCapacity := w .accumulatedDischargeCapacity
  accumulatedChargeCapacity := w .accumulatedChargeCapacity
  accumulatedDischargeTime := w .accumulatedDischargeTime
  accumulatedDischargeTimeText := renderDuration cfg.duration (w .accumulatedDischargeTime)
  accumulatedChargeTime := w .accumulatedChargeTime
  accumulatedChargeTimeText := renderDuration cfg.duration (w .accumulatedChargeTime)

/-- The 23 fields of the layout (R129), when every one of them lies inside the frame (R35). -/
def readFields (L : StatusLayout) (f : List Byte) (base : Nat) : Option (StatusField → Word) :=
  if h : StatusField.all.all (fun x => (readField L f base x).isSome) = true then
    some fun x => (readField L f base x).get (List.all_eq_true.mp h x (StatusField.mem_all x))
  else none

/-- The status group a frame carries (R121). A read outside the frame gives no group (R35). -/
def readStatusGroup (cfg : Config) (f : List Byte) (st t c : Byte) : Option StatusGroup :=
  match readHalves f cellBase c.toNat, readHalves f (cellBase + 2 * c.toNat) t.toNat,
    readFields cfg.layout f (fieldBase t c) with
  | some cells, some temps, some w => some (buildStatusGroup cfg st t c cells temps w)
  | _, _, _ => none

/-- STATUS after the counts are admitted: the layout must fit (R124), then the group is read and
committed as a whole (R134). -/
def statusBody (f : List Byte) (st t c : Byte) (s : State) : State × DecodeOutcome :=
  let s1 := s.setDecoder
    { s.d with off := BitVec.ofNat 16 (blockOffset t c), base := BitVec.ofNat 16 (fieldBase t c) }
  if f.length < fieldBase t c + s.cfg.layout.size then (s1, .malformed)
  else
    match readStatusGroup s.cfg f st t c with
    | some g => (s1.commitStatus g, .statusUpdated)
    | none => (s1, .malformed)

/-- `STATUS(frame)` (R121): re-check (R122), header bytes (R123), counts (R124), body. -/
def runStatus (f : List Byte) (s : State) : State × DecodeOutcome :=
  if statusLengthHolds f then
    match rd8 f 7, rd8 f 8, rd8 f 9 with
    | some st, some t, some c =>
      let s1 := s.setDecoder { s.d with st := st, t := t, c := c }
      if cellMax < c.toNat ∨ tempMax < t.toNat then (s1, .malformed)
      else statusBody f st t c s1
    | _, _, _ => (s, .malformed)
  else (s, .statusDropped)

/-! ## DEVINFO and UNHANDLED -/

/-- `DEVINFO(frame)` (R150): 38 bytes needed; both fields copied and committed together. -/
def runDevinfo (f : List Byte) (s : State) : State × DecodeOutcome :=
  if f.length < 38 then (s, .malformed)
  else
    match readBytes16 f 6, readBytes16 f 22 with
    | some hw, some sw => (s.commitDevinfo ⟨hw, sw⟩, .devInfoUpdated)
    | _, _ => (s, .malformed)

/-- `UNHANDLED(fn, frame)` (R151): no state change. The log entry `Unhandled(fn)` is read from the record
or value that reports the outcome (R163). -/
def runUnhandled (s : State) : State × DecodeOutcome := (s, .unhandled)

/-- `DECODE(fn, frame)` (R120): one test of all eight bits of the function code. -/
def runDecode (fn : Byte) (f : List Byte) (s : State) : State × DecodeOutcome :=
  if fn = fnStatus then runStatus f s
  else if fn = fnDevinfo then runDevinfo f s
  else runUnhandled s

/-- A decoder operation issued on its own: it ends returning its function code and outcome (log 3). -/
def finishDecode (fn : Byte) (p : State × DecodeOutcome) : State := p.1.returning (.decoded fn p.2)

end Sys2Proof.Machine
end

