-- ==== Sys2Proof/Machine/Frames.lean ====
section
/-! DEFINITION. The meanings of the frame operations, one per row of the function-code map
(spec/30_encoding.md R53): STATUS, DEVINFO, and the codes that are UNHANDLED
(spec/44_decoder_devinfo_unhandled.md R151: no byte of the frame beyond the function code is read). -/
namespace Sys2Proof.Machine

/-- `STATUS`, function code 0x11 (spec/43_decoder_status.md R121). -/
def execStatus (frame : List Byte) (s : State) : Host.Outcome State Fault Refusal :=
  .next (finishDecode 0x11#8 (runStatus frame s))

/-- `DEVINFO`, function code 0x12 (spec/44_decoder_devinfo_unhandled.md R150). -/
def execDevinfo (frame : List Byte) (s : State) : Host.Outcome State Fault Refusal :=
  .next (finishDecode 0x12#8 (runDevinfo frame s))

/-- `FN13`, function code 0x13: UNHANDLED (R151). -/
def execFn13 (_frame : List Byte) (s : State) : Host.Outcome State Fault Refusal :=
  .next (finishDecode 0x13#8 (runUnhandled s))

/-- `FN14`, function code 0x14: UNHANDLED (R151). -/
def execFn14 (_frame : List Byte) (s : State) : Host.Outcome State Fault Refusal :=
  .next (finishDecode 0x14#8 (runUnhandled s))

/-- `FN15`, function code 0x15: UNHANDLED (R151). -/
def execFn15 (_frame : List Byte) (s : State) : Host.Outcome State Fault Refusal :=
  .next (finishDecode 0x15#8 (runUnhandled s))

/-- `FN16`, function code 0x16: UNHANDLED (R151). -/
def execFn16 (_frame : List Byte) (s : State) : Host.Outcome State Fault Refusal :=
  .next (finishDecode 0x16#8 (runUnhandled s))

/-- `FN42`, function code 0x42: UNHANDLED (R151). -/
def execFn42 (_frame : List Byte) (s : State) : Host.Outcome State Fault Refusal :=
  .next (finishDecode 0x42#8 (runUnhandled s))

/-- `FN43`, function code 0x43: UNHANDLED (R151). -/
def execFn43 (_frame : List Byte) (s : State) : Host.Outcome State Fault Refusal :=
  .next (finishDecode 0x43#8 (runUnhandled s))

/-- `FN61`, function code 0x61: UNHANDLED (R151). -/
def execFn61 (_frame : List Byte) (s : State) : Host.Outcome State Fault Refusal :=
  .next (finishDecode 0x61#8 (runUnhandled s))

/-- `REQ_STATUS`, function code 0x01: UNHANDLED (R151, R56). -/
def execReqStatus (_frame : List Byte) (s : State) : Host.Outcome State Fault Refusal :=
  .next (finishDecode 0x01#8 (runUnhandled s))

/-- `REQ_DEVINFO`, function code 0x02: UNHANDLED (R151, R56). -/
def execReqDevinfo (_frame : List Byte) (s : State) : Host.Outcome State Fault Refusal :=
  .next (finishDecode 0x02#8 (runUnhandled s))

/-- `REQ_WRITE`, function code 0x51: UNHANDLED (R151, R56). -/
def execReqWrite (_frame : List Byte) (s : State) : Host.Outcome State Fault Refusal :=
  .next (finishDecode 0x51#8 (runUnhandled s))

/-- `FNxx`, every other function code: UNHANDLED (R151, R60). -/
def execFnxx (fn : Byte) (_frame : List Byte) (s : State) : Host.Outcome State Fault Refusal :=
  .next (finishDecode fn (runUnhandled s))

end Sys2Proof.Machine
end

