-- ==== Sys2Proof/Machine/Flags.lean ====
section
/-! DEFINITION. The tests whose results the `FeedResult` reports (spec/10_state.md R20, spec/41_assembler.md
R91, R92, R94), and the causes of spec/60_exceptions.md R160 with their codes. -/
namespace Sys2Proof.Machine

/-- Step 1's test: the buffer length exceeds 152, strictly (R91). -/
def overflows (fb : List Byte) : Bool := decide (bufMax < fb.length)

/-- Step 2's test: the chunk has at least two bytes and they are the preamble (R92, D3). -/
def opensWithPreamble : List Byte → Bool
  | b0 :: b1 :: _ => b0 == pre0 && b1 == pre1
  | _ => false

/-- Step 4's test: the buffer has a last byte and it is 0x55 (R94, D4). -/
def isCandidate (fb : List Byte) : Bool := fb.getLast? == some foot1

/-- The exceptional outcomes of R160. -/
inductive Cause where
  | overflow
  | lengthMismatch
  | crcMismatch
  | malformedCandidate
  | unhandled
  | statusDropped
  | malformedFrame
deriving DecidableEq, Repr

/-- The numeric codes of R160. -/
def Cause.code : Cause → Nat
  | .overflow => 1
  | .lengthMismatch => 2
  | .crcMismatch => 3
  | .malformedCandidate => 4
  | .unhandled => 5
  | .statusDropped => 6
  | .malformedFrame => 7

/-- Whether a cause is a logged event (R160, R163): all but the silent drop. -/
def Cause.logged : Cause → Bool
  | .statusDropped => false
  | _ => true

/-- The cause of a rejection (R160 codes 2 to 4). -/
def RejectReason.cause : RejectReason → Cause
  | .lengthMismatch => .lengthMismatch
  | .crcMismatch => .crcMismatch
  | .malformed => .malformedCandidate

/-- The cause of a decode outcome (R160 codes 5 to 7). -/
def DecodeOutcome.cause? : DecodeOutcome → Option Cause
  | .statusUpdated => none
  | .devInfoUpdated => none
  | .unhandled => some .unhandled
  | .statusDropped => some .statusDropped
  | .malformed => some .malformedFrame

/-- The cause of a FEED outcome. -/
def FeedOutcome.cause? : FeedOutcome → Option Cause
  | .noCandidate => none
  | .rejected r => some r.cause
  | .accepted _ _ o => o.cause?

/-- The causes a FEED reports: at most the overflow and one more (R165). -/
def FeedResult.causes (r : FeedResult) : List Cause :=
  (if r.overflowCleared then [.overflow] else []) ++ r.outcome.cause?.toList

/-- The log entries of a FEED, read from its record (R163). -/
def FeedResult.log (r : FeedResult) : List Cause := r.causes.filter Cause.logged

/-- The source's `Option<CompleteFrame>`: the emitted frame, exactly when the outcome is `Accepted` (R90). -/
def FeedResult.completeFrame : FeedResult → Option (Byte × List Byte)
  | ⟨_, _, .accepted fn frame _⟩ => some (fn, frame)
  | _ => none

/-- Whether a decode outcome changes the snapshot: exactly the first two of R152. -/
def DecodeOutcome.updates : DecodeOutcome → Bool
  | .statusUpdated => true
  | .devInfoUpdated => true
  | _ => false

end Sys2Proof.Machine
end

