-- ==== Sys2Proof/Machine/Assembler.lean ====
section
/-! DEFINITION. The FrameAssembler unit: the four steps of FEED (spec/41_assembler.md R90 to R96). -/
namespace Sys2Proof.Machine

/-- Step 1 (R91): clear an over-long buffer before the chunk is looked at. -/
def clearOverflow (s : State) : State := if overflows s.fb then s.clearBuffer else s

/-- Step 2 (R92): clear the buffer when the chunk opens with the preamble. -/
def flushOnPreamble (chunk : List Byte) (s : State) : State :=
  if opensWithPreamble chunk then s.clearBuffer else s

/-- Steps 1 to 3 (R91 to R93): the buffer as step 4 finds it. -/
def assemble (chunk : List Byte) (s : State) : State :=
  (flushOnPreamble chunk (clearOverflow s)).appendBuffer chunk

/-- Step 4 (R94 to R96): a candidate is validated, the buffer cleared, and an accepted frame decoded. -/
def judge (s : State) : State × FeedOutcome :=
  if isCandidate s.fb then
    let v := runValidate s.fb s
    let a := v.1.endAttempt
    match v.2 with
    | .ok fn =>
      let d := runDecode fn a.1 a.2
      (d.1, .accepted fn a.1 d.2)
    | .rejected reason => (a.2, .rejected reason)
  else (s, .noCandidate)

/-- `FEED(chunk)` (R90): the four steps and the record. -/
def runFeed (chunk : List Byte) (s : State) : State :=
  let j := judge (assemble chunk s)
  j.1.emitting ⟨overflows s.fb, opensWithPreamble chunk, j.2⟩

end Sys2Proof.Machine
end

