-- ==== Sys2Proof/Machine/Port.lean ====
section
/-! DEFINITION. The meanings of the port operations: RESET, FEED, SNAP.READ. -/
namespace Sys2Proof.Machine

/-- `RESET` (spec/70_reset_and_hazards.md R180): it emits no event and returns nothing. -/
def execReset (s : State) : Host.Outcome State Fault Refusal :=
  .next (s.resetOperation.returning .nothing)

/-- `FEED(chunk)` (spec/41_assembler.md R90). A chunk longer than `CHUNK_MAX` is outside the contract and
refused (D2, spec/93_implementation_defined.md U1). -/
def execFeed (chunk : List Byte) (s : State) : Host.Outcome State Fault Refusal :=
  if chunk.length ≤ s.cfg.chunkMax then .next (runFeed chunk s)
  else .refused .chunkLongerThanChunkMax

/-- What SNAP.READ returns (R40): a group whose read faults (R18) is left out. -/
def snapshotRead (s : State) : SnapRead where
  statusValid := s.snap.statusValid
  devinfoValid := s.snap.devinfoValid
  status := s.readStatus.toOption
  devinfo := s.readDevinfo.toOption

/-- `SNAP.READ` (spec/20_memory.md R40): it changes nothing but the outputs. -/
def execSnapRead (s : State) : Host.Outcome State Fault Refusal :=
  .next (s.returning (.snap (snapshotRead s)))

end Sys2Proof.Machine
end

