-- ==== Sys2Proof/Machine/Units.lean ====
section
/-! DEFINITION. The meanings of the unit operations issued on their own: CRC16, VALIDATE, DECODE (log 3). -/
namespace Sys2Proof.Machine

/-- `CRC16(b)` (spec/40_checksum.md R80). -/
def execCrc16 (b : List Byte) (s : State) : Host.Outcome State Fault Refusal :=
  let p := runCrc16 b s
  .next (p.1.returning (.crc p.2))

/-- `VALIDATE(buf)` (spec/42_validator.md R105). -/
def execValidate (buf : List Byte) (s : State) : Host.Outcome State Fault Refusal :=
  let p := runValidate buf s
  .next (p.1.returning (.validated p.2))

/-- `DECODE(fn, frame)` (spec/43_decoder_status.md R120). -/
def execDecode (fn : Byte) (frame : List Byte) (s : State) : Host.Outcome State Fault Refusal :=
  .next (finishDecode fn (runDecode fn frame s))

end Sys2Proof.Machine
end

