-- ==== Sys2Proof/Machine/Dispatch.lean ====
section
/-! DEFINITION. The dispatcher: one arm per constructor of `Instr`. -/
namespace Sys2Proof.Machine

def exec (i : Instr) (s : State) : Host.Outcome State Fault Refusal :=
  match i with
  | .reset => Sys2Proof.Machine.execReset s
  | .feed chunk => Sys2Proof.Machine.execFeed chunk s
  | .snapRead => Sys2Proof.Machine.execSnapRead s
  | .crc16 b => Sys2Proof.Machine.execCrc16 b s
  | .validate buf => Sys2Proof.Machine.execValidate buf s
  | .decode fn frame => Sys2Proof.Machine.execDecode fn frame s
  | .status frame => Sys2Proof.Machine.execStatus frame s
  | .devinfo frame => Sys2Proof.Machine.execDevinfo frame s
  | .fn13 frame => Sys2Proof.Machine.execFn13 frame s
  | .fn14 frame => Sys2Proof.Machine.execFn14 frame s
  | .fn15 frame => Sys2Proof.Machine.execFn15 frame s
  | .fn16 frame => Sys2Proof.Machine.execFn16 frame s
  | .fn42 frame => Sys2Proof.Machine.execFn42 frame s
  | .fn43 frame => Sys2Proof.Machine.execFn43 frame s
  | .fn61 frame => Sys2Proof.Machine.execFn61 frame s
  | .reqStatus frame => Sys2Proof.Machine.execReqStatus frame s
  | .reqDevinfo frame => Sys2Proof.Machine.execReqDevinfo frame s
  | .reqWrite frame => Sys2Proof.Machine.execReqWrite frame s
  | .fnxx fn frame => Sys2Proof.Machine.execFnxx fn frame s

end Sys2Proof.Machine
end

