-- ==== Sys2Proof/Machine/Step.lean ====
section
/-! DEFINITION. The step: the engine accepts the next operation waiting at its input and executes it to
completion (spec/20_memory.md R38). -/
namespace Sys2Proof.Machine

/-- One step. With nothing waiting, nothing happens (log 2). An input that is no operation is refused by
name (log 24). -/
def step (s : State) : Host.Outcome State Fault Refusal :=
  match s.fetch with
  | none => .next s
  | some (r, s1) =>
    match decode r with
    | .ok i => exec i s1
    | .error e => .refused (.noSuchOperation e)

/-- The state with the frame of an opcode-table word placed first at the input, at the decoder's
routines, so that the next step runs exactly the operation it encodes (logs 1, 5). -/
def State.withFetchWord (s : State) (nbits w : Nat) : State :=
  { s with pending := ⟨.frame, frameOfWord nbits w⟩ :: s.pending }

end Sys2Proof.Machine
end

