-- ==== Sys2Proof/WellFormed.lean ====
section
/-! DEFINITION. When an operation is well formed: its operands are ones the spec gives it. -/
namespace Sys2Proof

/-- The function codes that R53 lists by value; every other one is `FNxx`. -/
def listedCodes : List Byte :=
  [0x11#8, 0x12#8, 0x13#8, 0x14#8, 0x15#8, 0x16#8, 0x42#8, 0x43#8, 0x61#8, 0x01#8, 0x02#8, 0x51#8]

/-- Frame byte 2 is the given function code (R50, R53). -/
def carriesCode (fn : Byte) (frame : List Byte) : Bool := frame[2]? == some fn

/-- Well-formedness: a chunk is at most `CHUNK_MAX` bytes (R90, D2), a candidate has at least one byte
(R105), a frame operation's frame carries its function code (R53), and `FNxx` stands for codes R53 does
not list. DECODE takes any function code and frame (R120, R122). -/
def Instr.wellFormed (cfg : Config) : Instr → Bool
  | .reset => true
  | .feed chunk => decide (chunk.length ≤ cfg.chunkMax)
  | .snapRead => true
  | .crc16 _ => true
  | .validate buf => decide (1 ≤ buf.length)
  | .decode _ _ => true
  | .status f => carriesCode 0x11#8 f
  | .devinfo f => carriesCode 0x12#8 f
  | .fn13 f => carriesCode 0x13#8 f
  | .fn14 f => carriesCode 0x14#8 f
  | .fn15 f => carriesCode 0x15#8 f
  | .fn16 f => carriesCode 0x16#8 f
  | .fn42 f => carriesCode 0x42#8 f
  | .fn43 f => carriesCode 0x43#8 f
  | .fn61 f => carriesCode 0x61#8 f
  | .reqStatus f => carriesCode 0x01#8 f
  | .reqDevinfo f => carriesCode 0x02#8 f
  | .reqWrite f => carriesCode 0x51#8 f
  | .fnxx fn f => carriesCode fn f && !listedCodes.contains fn

end Sys2Proof
end

