-- ==== Sys2Proof/Safety.lean ====
section
/-! DEFINITION. The vocabulary of the claims: the invariant of the engine, sequences of FEEDs, the
conditions under which cutting a frame into chunks does not matter (spec/70_reset_and_hazards.md R188), and
readings of frames and of outcomes that do not use the engine's own functions. -/
namespace Sys2Proof.Machine

/-! ## Plain readings of a byte sequence -/

/-- The little-endian value of `n` bytes (R31), for offsets inside the sequence. -/
def leValue (f : List Byte) (off : Nat) : Nat → Nat
  | 0 => 0
  | n + 1 => (f.getD off 0#8).toNat + 256 * leValue f (off + 1) n

/-- The length the byte at offset 5 declares, where that byte exists (R107, R122). -/
def declaredLength (f : List Byte) : Option Nat := f[5]?.map fun dlen => 6 + dlen.toNat + 4

/-- The raw integer of `u`, assembled at a layout entry's width, under its sign (R58 step 2). -/
def entryValue (e : LayoutEntry) (u : Nat) : Int :=
  if e.signed then (if e.width = .two then asI16 u else asI32 u) else u

/-- One iteration of CRC16's inner loop on numbers (R80). -/
def crcIteration (n : Nat) : Nat := if n % 2 = 1 then (n / 2) ^^^ 0xA001 else n / 2

/-- Three bytes holding 24 bits in the order the Checksum unit takes them, least significant first (R32). -/
def threeBytes (u : BitVec 24) : List Byte :=
  [u.setWidth 8, (u >>> 8).setWidth 8, (u >>> 16).setWidth 8]

/-! ## The status frame -/

/-- A frame STATUS admits: the length re-check holds (R122), the header bytes are these (R123), the
counts are within their maxima and the layout fits (R124). -/
abbrev StatusAdmitted (cfg : Config) (f : List Byte) (st t c : Byte) : Prop :=
  declaredLength f = some f.length ∧ f[7]? = some st ∧ f[8]? = some t ∧ f[9]? = some c ∧
    c.toNat ≤ 32 ∧ t.toNat ≤ 6 ∧ 34 + (2 * c.toNat + 2 * t.toNat) + cfg.layout.size ≤ f.length

/-- What R19, R127, R131 and R133 say of a committed status group. -/
structure StatusGroup.Consistent (cfg : Config) (g : StatusGroup) : Prop where
  cells : g.cellVoltage.length = g.cellCount.toNat
  cellsBound : g.cellCount.toNat ≤ 32
  temps : g.temperature.length = g.tempCount.toNat
  tempsBound : g.tempCount.toNat ≤ 6
  mosfet : g.mosfetTemperature =
    if 2 ≤ g.tempCount.toNat then g.temperature[g.tempCount.toNat - 2]? else none
  balancer : g.balancerTemperature =
    if 2 ≤ g.tempCount.toNat then g.temperature[g.tempCount.toNat - 1]? else none
  chargeText : g.chargeMosfetText = lut cfg.lutCharge g.chargeMosfetStatus
  dischargeText : g.dischargeMosfetText = lut cfg.lutDischarge g.dischargeMosfetStatus
  balancerText : g.balancerText = lut cfg.lutBalancer g.balancerStatus
  runtimeText : g.totalRuntimeText = renderDuration cfg.duration g.totalRuntime
  dischargeTimeText :
    g.accumulatedDischargeTimeText = renderDuration cfg.duration g.accumulatedDischargeTime
  chargeTimeText :
    g.accumulatedChargeTimeText = renderDuration cfg.duration g.accumulatedChargeTime

/-! ## The invariant -/

/-- What holds between operations: the parameters conform (R6), the buffer is within its physical
capacity (R11, R26) and does not end in 0x55 (R25), and a valid status group is consistent (R19). -/
structure State.Inv (s : State) : Prop where
  cfg : s.cfg.Wf
  capacity : s.fb.length ≤ bufMax + s.cfg.chunkMax
  noCandidate : s.fb.getLast? ≠ some foot1
  status : s.snap.statusValid = true → s.snap.status.Consistent s.cfg

/-! ## Outcomes -/

/-- The outcome a FEED has put on the event output. -/
def State.feedOutcome? (s : State) : Option FeedOutcome := s.event.map (·.outcome)

/-- The decode outcome of the last operation, if a frame was decoded by it. -/
def State.decodeOutcome? (s : State) : Option DecodeOutcome :=
  match s.returned with
  | .feed ⟨_, _, .accepted _ _ o⟩ => some o
  | .decoded _ o => some o
  | _ => none

/-- The buffer as step 4 of FEED finds it (R91 to R93): the old bytes unless the buffer was over 152
bytes long or the chunk opens with the preamble, then the chunk. -/
def assembled (fb chunk : List Byte) : List Byte :=
  (if 152 < fb.length ∨ chunk.take 2 = [0x7E#8, 0xA1#8] then [] else fb) ++ chunk

/-- The record a FEED emits, its flags read from the state the FEED began in (R91, R92). -/
def recordOf (fb chunk : List Byte) (o : FeedOutcome) : FeedResult :=
  ⟨decide (152 < fb.length), decide (chunk.take 2 = [0x7E#8, 0xA1#8]), o⟩

/-! ## Sequences of FEEDs -/

/-- FEEDs of the chunks in order, with no other operation between them. -/
def feedAll : List (List Byte) → State → Host.Outcome State Fault Refusal
  | [], s => .next s
  | c :: cs, s =>
    match exec (.feed c) s with
    | .next t => feedAll cs t
    | .fault r => .fault r
    | .refused r => .refused r

/-- Conditions (ii), (iii), (iv) of R188 on a cutting. -/
structure CutsSafely (cs : List (List Byte)) : Prop where
  noInnerFooter : ∀ c ∈ cs.dropLast, c.getLast? ≠ some 0x55#8
  noInnerPreamble : ∀ c ∈ cs.tail, c.take 2 ≠ [0x7E#8, 0xA1#8]
  prefixesFit : ∀ j, j < cs.length → (cs.take j).flatten.length ≤ 152

/-- A cutting of `F` into non-empty chunks that starts as condition (i) of R188 asks: from an empty
buffer, or with the preamble at the head of a first chunk of at least two bytes. -/
structure CuttingOf (F : List Byte) (fb : List Byte) (cs : List (List Byte)) : Prop where
  whole : cs.flatten = F
  nonempty : cs ≠ []
  chunks : ∀ c ∈ cs, c ≠ []
  start : fb = [] ∨ F.take 2 = [0x7E#8, 0xA1#8] ∧ 2 ≤ (cs.headD []).length

/-- A state whose waiting operations are all port operations (D1): what the surroundings can issue. -/
def State.portOnly (s : State) : Bool := s.pending.all fun r => r.select.isPort

end Sys2Proof.Machine
end

