-- ==== Sys2Proof/Certificates/Slice0/Obligations.lean ====
section
/-! DEFINITION. The statements for the provers: what the rules of spec/ say of the engine. -/
open Sys2Proof Sys2Proof.Machine

/-! ## Encoding -/

/-- Decoding the request an operation is encoded as gives the operation back (R53, opcode_table.json).
The selection of port and unit operations by name is the model's (log 4). -/
def Obligations.DecodeInvertsEncode : Prop :=
  ∀ (cfg : Config) (i : Instr), i.wellFormed cfg = true → decode (encode i) = .ok i

/-- R53, R60: a frame with a byte 2 is always an operation; its function code is that byte, all eight bits
of it, its operand the whole frame, and it is `FNxx` exactly when the code is not a listed one. That a
frame alone selects a routine is the model's (log 3). -/
def Obligations.FunctionCodeSelectsOperation : Prop :=
  ∀ (f : List Byte) (fn : Byte), f[2]? = some fn →
    ∃ i, decode ⟨.frame, f⟩ = .ok i ∧ i.frame? = some f ∧ i.functionCode? = some fn ∧
      (i = .fnxx fn f ↔ fn ∉ listedCodes)

/-- The FRAME of vector V1, written out from the encoding, decodes to FN13. The layout of an opcode-table
word as `FRAME(fn, [])` is the model's choice (log 5), and so are the operand bytes of DECODE and FEED
requests (log 4). -/
def Obligations.SampleWordsDecode : Prop :=
  decode ⟨.frame, [0x7E, 0xA1, 0x13, 0x00, 0x00, 0x00, 0x9D, 0x5D, 0xAA, 0x55]⟩ =
      .ok (.fn13 [0x7E, 0xA1, 0x13, 0x00, 0x00, 0x00, 0x9D, 0x5D, 0xAA, 0x55]) ∧
    decodeTableWord 8 0x13 =
      some (.fn13 [0x7E, 0xA1, 0x13, 0x00, 0x00, 0x00, 0x9D, 0x5D, 0xAA, 0x55]) ∧
    decodeTableWord 8 0x11 = some (.status (frameOf 0x11#8 [])) ∧
    decode ⟨.decode, [0x12, 0x7E, 0xA1]⟩ = .ok (.decode 0x12#8 [0x7E, 0xA1]) ∧
    decode ⟨.feed, [0x7E, 0xA1]⟩ = .ok (.feed [0x7E, 0xA1])

/-! ## The step -/

/-- A step runs the decoded operation, with that operation taken off the input and nothing else
changed. The input queue, its idling when empty and its refusal of what is no operation are the model's
choices (logs 1, 2, 24). -/
def Obligations.StepRunsDecodedOperation : Prop :=
  ∀ (s : State) (r : Request) (rest : List Request),
    (s.pending = [] → step s = .next s) ∧
    (s.pending = r :: rest →
      (∀ i, decode r = .ok i → step s = exec i { s with pending := rest }) ∧
      (∀ e, decode r = .error e → step s = .refused (.noSuchOperation e)))

/-- The reset state meets the invariant. It holds of the reset configuration (logs 7 to 11). -/
def Obligations.ResetStateMeetsInvariant : Prop := State.reset.Inv

/-- Every step keeps the invariant, from every state that meets it: parameters conforming, buffer within
`152 + CHUNK_MAX` bytes (R11) and not ending in 0x55 (R25), a valid status group consistent (R19). -/
def Obligations.EveryStepKeepsInvariant : Prop :=
  ∀ s t : State, s.Inv → step s = .next t → t.Inv

/-- R21: nothing changes a parameter at run time. That no operation touches the waiting requests is the
model's: the queue is its own (log 1); the parameters are carried in State by its choice too (log 6). -/
def Obligations.NoOperationWritesConfiguration : Prop :=
  ∀ (i : Instr) (s t : State), exec i s = .next t → t.cfg = s.cfg ∧ t.pending = s.pending

/-- R192, R168: every well-formed operation completes, from every state. -/
def Obligations.WellFormedOperationsComplete : Prop :=
  ∀ (s : State) (i : Instr), i.wellFormed s.cfg = true → ∃ t, exec i s = .next t

/-- R20: a FEED puts exactly one record on the event output, which it also returns, and no other
operation puts one there. That the output is idle after every other operation is the model's (log 16). -/
def Obligations.OnlyFeedEmitsAnEvent : Prop :=
  ∀ (i : Instr) (s t : State), exec i s = .next t →
    (t.event.isSome = true ↔ ∃ chunk, i = .feed chunk) ∧ ∀ r, t.event = some r → t.returned = .feed r

/-- R152, R19, R134: apart from RESET, an operation changes the snapshot only with one of the two updating
outcomes, and each replaces its own group, sets its valid bit and leaves the other group alone. The
outcome is read from the returned value, the model's form (log 17). -/
def Obligations.OnlyUpdatesChangeTheSnapshot : Prop :=
  ∀ (i : Instr) (s t : State), i ≠ .reset → exec i s = .next t →
    (t.decodeOutcome? = some .statusUpdated ∧ t.snap.statusValid = true ∧
        t.snap.devinfo = s.snap.devinfo ∧ t.snap.devinfoValid = s.snap.devinfoValid) ∨
    (t.decodeOutcome? = some .devInfoUpdated ∧ t.snap.devinfoValid = true ∧
        t.snap.status = s.snap.status ∧ t.snap.statusValid = s.snap.statusValid) ∨
    (t.decodeOutcome? ≠ some .statusUpdated ∧ t.decodeOutcome? ≠ some .devInfoUpdated ∧
        t.snap = s.snap)

/-- R18: "nothing clears it but RESET". -/
def Obligations.OnlyResetClearsValidBits : Prop :=
  ∀ (i : Instr) (s t : State), i ≠ .reset → exec i s = .next t →
    (s.snap.statusValid = true → t.snap.statusValid = true) ∧
    (s.snap.devinfoValid = true → t.snap.devinfoValid = true)

/-- R172, R99: when only port operations wait, a step that changes the buffer, the snapshot or the scratch
accepted a FEED or a RESET. The waiting queue is the model's (log 1), and so are scratch registers that
keep their values (log 15). -/
def Obligations.PortStepsChangeStateOnlyByFeedOrReset : Prop :=
  ∀ s t : State, s.portOnly = true → step s = .next t →
    t.portOnly = true ∧
    ((t.fb, t.snap, t.crcAcc, t.v, t.d) ≠ (s.fb, s.snap, s.crcAcc, s.v, s.d) →
      ∃ rest, (∃ chunk, s.pending = ⟨.feed, chunk⟩ :: rest) ∨ s.pending = ⟨.reset, []⟩ :: rest)

/-! ## RESET and SNAP.READ -/

/-- R24: what the reset state holds where the spec says it. -/
def Obligations.ResetStateIsEmpty : Prop :=
  State.reset.fb = [] ∧ State.reset.snap.statusValid = false ∧
    State.reset.snap.devinfoValid = false ∧ State.reset.event = none

/-- R180: the RESET operation empties the buffer and clears both valid bits; every snapshot field and
scratch register becomes a free value (log 12); it emits no event. What it returns is the model's (log
17). -/
def Obligations.ResetOperationClears : Prop :=
  ∀ s : State, exec .reset s = .next
    { s with
      fb := []
      snap :=
        { statusValid := false, status := Config.freeStatus s.freeCount,
          devinfoValid := false, devinfo := Config.freeDevInfo s.freeCount }
      crcAcc := Config.freeCrcAcc s.freeCount
      v := Config.freeValidator s.freeCount
      d := Config.freeDecoder s.freeCount
      event := none
      returned := .nothing
      freeCount := s.freeCount + 1 }

/-- R40: SNAP.READ returns the two valid bits and each group whose valid bit is 1, and changes no state. The
form of the outputs and scratch registers that keep their values are the model's (logs 15, 16, 17). -/
def Obligations.SnapReadReturnsValidGroups : Prop :=
  ∀ s : State, exec .snapRead s = .next
    { s with
      event := none
      returned := .snap
        { statusValid := s.snap.statusValid
          devinfoValid := s.snap.devinfoValid
          status := if s.snap.statusValid then some s.snap.status else none
          devinfo := if s.snap.devinfoValid then some s.snap.devinfo else none } }

/-! ## FEED -/

/-- R91 to R95: when the assembled buffer does not end in 0x55 there is no candidate; the buffer keeps all
its bytes, the record says so, and nothing else changes. That the scratch registers too keep their
values is the model's (log 15). -/
def Obligations.FeedWithoutCandidateKeepsTheBytes : Prop :=
  ∀ (s : State) (chunk : List Byte), chunk.length ≤ s.cfg.chunkMax →
    (assembled s.fb chunk).getLast? ≠ some 0x55#8 →
    exec (.feed chunk) s = .next
      { s with
        fb := assembled s.fb chunk
        event := some (recordOf s.fb chunk .noCandidate)
        returned := .feed (recordOf s.fb chunk .noCandidate) }

/-- R94 to R96: a candidate is judged as VALIDATE judges the whole assembled buffer; the buffer is cleared
either way; a rejection changes nothing but VALIDATE's scratch; an accepted frame is decoded as DECODE
decodes it, and its outcome is reported. The form of the returned value and scratch registers that keep
their values are the model's (logs 15, 17). -/
def Obligations.FeedJudgesACandidate : Prop :=
  ∀ (s v : State) (chunk : List Byte), chunk.length ≤ s.cfg.chunkMax →
    (assembled s.fb chunk).getLast? = some 0x55#8 →
    exec (.validate (assembled s.fb chunk)) { s with fb := assembled s.fb chunk } = .next v →
    (∀ reason, v.returned = .validated (.rejected reason) →
      exec (.feed chunk) s = .next
        { v with
          fb := []
          event := some (recordOf s.fb chunk (.rejected reason))
          returned := .feed (recordOf s.fb chunk (.rejected reason)) }) ∧
    (∀ fn w o, v.returned = .validated (.ok fn) →
      exec (.decode fn (assembled s.fb chunk)) { v with fb := [] } = .next w →
      w.returned = .decoded fn o →
      exec (.feed chunk) s = .next
        { w with
          event := some (recordOf s.fb chunk (.accepted fn (assembled s.fb chunk) o))
          returned := .feed (recordOf s.fb chunk (.accepted fn (assembled s.fb chunk) o)) })

/-- R90, R96, R64: a FRAME delivered whole is accepted, from any state, and decoded as DECODE decodes it.
That the decoder's scratch still holds what it wrote is the model's (log 15). -/
def Obligations.FrameDeliveredWholeIsAccepted : Prop :=
  ∀ (s : State) (fn : Byte) (payload : List Byte), payload.length ≤ 255 →
    (frameOf fn payload).length ≤ s.cfg.chunkMax →
    ∃ t w o, exec (.feed (frameOf fn payload)) s = .next t ∧
      exec (.decode fn (frameOf fn payload)) s = .next w ∧ w.returned = .decoded fn o ∧
      t.event = some ⟨decide (152 < s.fb.length), true, .accepted fn (frameOf fn payload) o⟩ ∧
      t.fb = [] ∧ t.snap = w.snap ∧ t.d = w.d

/-- R91: the overflow test is on the length the buffer had when the FEED began and is strict; an over-long
buffer has no other influence than the flag, its FEED's chunk is kept, a buffer of at most 152 bytes is kept,
and there is no test after the append. -/
def Obligations.OverflowClearsBeforeTheChunk : Prop :=
  ∀ (s : State) (chunk : List Byte), chunk.length ≤ s.cfg.chunkMax →
    ∃ t, exec (.feed chunk) s = .next t ∧
      t.event.map (·.overflowCleared) = some (decide (152 < s.fb.length)) ∧
      (152 < s.fb.length → ∃ u, exec (.feed chunk) { s with fb := [] } = .next u ∧
        t.fb = u.fb ∧ t.snap = u.snap ∧ t.feedOutcome? = u.feedOutcome?) ∧
      (152 < s.fb.length → chunk.getLast? ≠ some 0x55#8 → t.fb = chunk) ∧
      (s.fb.length ≤ 152 → chunk.take 2 ≠ [0x7E#8, 0xA1#8] →
        (s.fb ++ chunk).getLast? ≠ some 0x55#8 → t.fb = s.fb ++ chunk)

/-- R92, R184: a chunk that opens with the preamble makes the old bytes irrelevant; no stale byte leaks
into the next frame. -/
def Obligations.PreambleHeadDiscardsStaleBytes : Prop :=
  ∀ (s : State) (stale chunk : List Byte), chunk.length ≤ s.cfg.chunkMax →
    chunk.take 2 = [0x7E#8, 0xA1#8] →
    ∃ t u, exec (.feed chunk) s = .next t ∧ exec (.feed chunk) { s with fb := stale } = .next u ∧
      t.fb = u.fb ∧ t.snap = u.snap ∧ t.feedOutcome? = u.feedOutcome? ∧
      t.event.map (·.preambleCleared) = some true

/-- spec/92_eei_decisions.md D2, spec/93_implementation_defined.md U1: a longer chunk is refused. The
refusal's form is the model's (log 7). -/
def Obligations.FeedBeyondChunkMaxIsRefused : Prop :=
  ∀ (s : State) (chunk : List Byte), s.cfg.chunkMax < chunk.length →
    exec (.feed chunk) s = .refused .chunkLongerThanChunkMax

/-- R26: the length after a FEED, and an empty buffer after every attempt; a frame handed over is at most
`152 + CHUNK_MAX` bytes long. R26 is the spec's own inference. -/
def Obligations.BufferLengthAfterFeed : Prop :=
  ∀ (s t : State) (chunk : List Byte), exec (.feed chunk) s = .next t →
    t.fb.length ≤ 152 + chunk.length ∧
    (t.feedOutcome? ≠ some .noCandidate → t.fb = []) ∧
    ∀ fn f o, t.feedOutcome? = some (.accepted fn f o) → f.length ≤ 152 + s.cfg.chunkMax

/-- R25: after RESET and after every FEED the buffer is empty or its last byte is not 0x55, and then a FEED
with an empty chunk triggers no validation. R25 is the spec's own inference. -/
def Obligations.BufferNeverEndsInFooter : Prop :=
  (∀ s t : State, exec .reset s = .next t → t.fb = []) ∧
  (∀ (s t : State) (chunk : List Byte), exec (.feed chunk) s = .next t →
    t.fb = [] ∨ t.fb.getLast? ≠ some 0x55#8) ∧
  ∀ s : State, (s.fb = [] ∨ s.fb.getLast? ≠ some 0x55#8) →
    ∃ t, exec (.feed []) s = .next t ∧ t.feedOutcome? = some .noCandidate

/-- R122, R113, R110: an accepted frame carries its function code at byte 2 and ends in 0x55; unless it
is a device-info frame its length is the declared one; and the status re-check never fails on it. -/
def Obligations.FeedNeverDropsAStatusFrame : Prop :=
  ∀ (s t : State) (chunk f : List Byte) (fn : Byte) (o : DecodeOutcome),
    exec (.feed chunk) s = .next t → t.feedOutcome? = some (.accepted fn f o) →
    f[2]? = some fn ∧ f.getLast? = some 0x55#8 ∧
      (fn ≠ 0x12#8 → declaredLength f = some f.length) ∧ o ≠ .statusDropped

/-- R187: two frames in one chunk are one candidate and are rejected, both lost. -/
def Obligations.TwoFramesInOneChunkAreRejected : Prop :=
  ∀ (s : State) (fn : Byte) (payload more : List Byte), fn ≠ 0x12#8 → payload.length ≤ 255 →
    more.getLast? = some 0x55#8 → (frameOf fn payload ++ more).length ≤ s.cfg.chunkMax →
    ∃ t, exec (.feed (frameOf fn payload ++ more)) s = .next t ∧
      t.feedOutcome? = some (.rejected .lengthMismatch) ∧ t.fb = [] ∧ t.snap = s.snap

/-- R183: a chunk that ends in 0x55 before its frame is complete is rejected and discarded, for every
function code but 0x12. -/
def Obligations.TrailingFooterByteTriggersEarly : Prop :=
  ∀ (s : State) (F : List Byte) (k : Nat) (fn : Byte), s.fb = [] → F[2]? = some fn → fn ≠ 0x12#8 →
    declaredLength F = some F.length → k < F.length → (F.take k).getLast? = some 0x55#8 →
    k ≤ s.cfg.chunkMax →
    ∃ t reason, exec (.feed (F.take k)) s = .next t ∧ t.feedOutcome? = some (.rejected reason) ∧
      reason ≠ .crcMismatch ∧ t.fb = [] ∧ t.snap = s.snap

/-- R56: a request frame fed back is judged by its value byte as a length and rejected unless that byte
is 0. -/
def Obligations.RequestFedBackIsRejected : Prop :=
  ∀ (s : State) (fn value : Byte) (addr : Half), fn ≠ 0x12#8 → value ≠ 0#8 → 10 ≤ s.cfg.chunkMax →
    ∃ t, exec (.feed (requestFrame fn addr value)) s = .next t ∧
      t.feedOutcome? = some (.rejected .lengthMismatch)

/-- R188, sufficiency: if F delivered whole from an empty buffer is accepted, then every cutting of it
that meets (i) to (iv) gives NoCandidate at every FEED but the last, and the last accepts F with the same
decode outcome and snapshot. -/
def Obligations.SafeCuttingReproducesTheFrame : Prop :=
  ∀ (s w : State) (F : List Byte) (fn : Byte) (o : DecodeOutcome) (cs : List (List Byte)),
    exec (.feed F) { s with fb := [] } = .next w →
    w.feedOutcome? = some (.accepted fn F o) → fn ≠ 0x12#8 →
    CuttingOf F s.fb cs → CutsSafely cs →
    (∀ j, 0 < j → j < cs.length →
      ∃ u, feedAll (cs.take j) s = .next u ∧ u.feedOutcome? = some .noCandidate) ∧
    ∃ t, feedAll cs s = .next t ∧ t.feedOutcome? = some (.accepted fn F o) ∧ t.snap = w.snap ∧
      t.fb = []

/-- R188, necessity: a cutting that breaks one of (ii), (iii), (iv) does not deliver the frame. -/
def Obligations.UnsafeCuttingLosesTheFrame : Prop :=
  ∀ (s w : State) (F : List Byte) (fn : Byte) (o : DecodeOutcome) (cs : List (List Byte)),
    exec (.feed F) { s with fb := [] } = .next w →
    w.feedOutcome? = some (.accepted fn F o) → fn ≠ 0x12#8 →
    CuttingOf F s.fb cs → ¬ CutsSafely cs →
    ∃ t, feedAll cs s = .next t ∧ t.feedOutcome? ≠ some (.accepted fn F o)

/-- R186: a frame longer than 153 bytes delivered one byte at a time never survives. -/
def Obligations.LongFrameIsLostBytewise : Prop :=
  ∀ (s : State) (F : List Byte), s.fb = [] → 1 ≤ s.cfg.chunkMax → 153 < F.length →
    ∃ t, feedAll (bytewiseChunks F) s = .next t ∧
      ∀ fn o, t.feedOutcome? ≠ some (.accepted fn F o)

/-! ## CRC16 -/

/-- R80: the initial value, one byte, and what the operation writes and returns. That the event output is
idle and the value shown is the model's (logs 16, 17), and so is that CRC.ACC keeps it afterwards (log 15). -/
def Obligations.Crc16RunsTheShiftLoop : Prop :=
  crc16 [] = 0xFFFF#16 ∧
  (∀ (b : List Byte) (x : Byte), (crc16 (b ++ [x])).toNat =
    crcIteration^[8] ((crc16 b).toNat ^^^ x.toNat)) ∧
  ∀ (b : List Byte) (s : State), exec (.crc16 b) s = .next
    { s with crcAcc := crc16 b, event := none, returned := .crc (crc16 b) }

/-- R81 (b): the running value after a prefix is all the unit needs to continue. -/
def Obligations.Crc16IsIncremental : Prop :=
  ∀ a b : List Byte, crc16 (a ++ b) = crcFrom (crc16 a) b

/-- R81 (c): appending a sequence's CRC, low byte first, gives CRC zero. -/
def Obligations.Crc16SelfCheck : Prop :=
  ∀ b : List Byte, crc16 (b ++ [(crc16 b).lowByte, (crc16 b).highByte]) = 0x0000#16

/-- R81 (f): any change confined to 16 consecutive bits of the covered range, one bit included, changes
the CRC. -/
def Obligations.Crc16DetectsShortBursts : Prop :=
  ∀ (p q : List Byte) (u : BitVec 24) (burst : Half) (k : Nat), burst ≠ 0#16 → k ≤ 8 →
    crc16 (p ++ threeBytes (u ^^^ (burst.setWidth 24 <<< k)) ++ q) ≠ crc16 (p ++ threeBytes u ++ q)

/-! ## VALIDATE -/

/-- R105, R114: the checks in their order, the first that fails giving the reason; scratch is all it writes.
The outputs, scratch registers that keep their values and the verdict on no byte are the model's (logs
15, 16, 17, 28). -/
def Obligations.ValidateReportsFirstFailingCheck : Prop :=
  ∀ (buf : List Byte) (s : State),
    let fn := buf.getD 2 0#8
    let flen := 6 + (buf.getD 5 0#8).toNat + 4
    let crcAt := if fn = 0x12#8 ∧ s.cfg.devinfoCrcAt = .actual then buf.length - 4 else flen - 4
    let verdict : ValidateResult :=
      if buf.length < 6 then .rejected .malformed
      else if fn ≠ 0x12#8 ∧ flen ≠ buf.length then .rejected .lengthMismatch
      else if fn = 0x12#8 ∧ buf.length < flen then .rejected .malformed
      else if (crc16 ((buf.take (flen - 4)).drop 1)).toNat = leValue buf crcAt 2 then .ok fn
      else .rejected .crcMismatch
    ∃ v acc, exec (.validate buf) s = .next
      { s with v := v, crcAcc := acc, event := none, returned := .validated verdict }

/-- R14, R106, R107, R109: what VALIDATE writes to its scratch registers when it reads the header bytes, and
when it reaches the CRC check. That they still hold it after the operation is the model's (log 15: R24 calls
them unspecified), and so is the shown verdict (log 17). -/
def Obligations.ValidateWritesItsScratch : Prop :=
  ∀ (buf : List Byte) (s : State), 6 ≤ buf.length →
    let flen := 6 + (buf.getD 5 0#8).toNat + 4
    ∃ t, exec (.validate buf) s = .next t ∧ t.v.fn = buf.getD 2 0#8 ∧ t.v.dlen = buf.getD 5 0#8 ∧
      t.v.flen.toNat = flen ∧
      ((∃ fn, t.returned = .validated (.ok fn)) ∨ t.returned = .validated (.rejected .crcMismatch) →
        t.v.crcComputed = crc16 ((buf.take (flen - 4)).drop 1) ∧ t.crcAcc = t.v.crcComputed ∧
        (t.v.crcStored = t.v.crcComputed ↔ ∃ fn, t.returned = .validated (.ok fn)))

/-- R105, R64: every FRAME validates. The outputs and scratch registers that keep their values are the
model's (logs 15, 16, 17). -/
def Obligations.EveryFrameValidates : Prop :=
  ∀ (s : State) (fn : Byte) (payload : List Byte), payload.length ≤ 255 →
    ∃ v acc, exec (.validate (frameOf fn payload)) s = .next
      { s with v := v, crcAcc := acc, event := none, returned := .validated (.ok fn) }

/-- R113: offset 0 and everything from the footer's place on is not looked at. The next states compared hold
the outputs and the scratch as the model keeps them (logs 15, 16, 17). -/
def Obligations.ValidateIgnoresUncheckedBytes : Prop :=
  ∀ (buf buf' : List Byte) (s t : State), s.cfg.devinfoCrcAt = .declared →
    buf.length = buf'.length →
    (∀ k, 1 ≤ k → k < 6 + (buf.getD 5 0#8).toNat + 4 - 2 → buf[k]? = buf'[k]?) →
    exec (.validate buf) s = .next t → exec (.validate buf') s = .next t

/-- R81 (e): changing either stored CRC byte of a candidate that validates causes rejection. The shown
verdict is the model's form (log 17). -/
def Obligations.StoredCrcCorruptionIsRejected : Prop :=
  ∀ (s t : State) (buf : List Byte) (fn x : Byte) (k : Nat),
    exec (.validate buf) s = .next t → t.returned = .validated (.ok fn) →
    (let crcAt := if fn = 0x12#8 ∧ s.cfg.devinfoCrcAt = .actual then buf.length - 4
        else 6 + (buf.getD 5 0#8).toNat + 4 - 4
     k = crcAt ∨ k = crcAt + 1) →
    x ≠ buf.getD k 0#8 →
    ∃ u, exec (.validate (buf.set k x)) s = .next u ∧
      u.returned = .validated (.rejected .crcMismatch)

/-- R112, R189: with the CRC at its declared place, bytes after a device-info frame do not matter to the
validator. The next states compared hold the outputs and the scratch as the model keeps them (logs 15,
16, 17). -/
def Obligations.DevinfoExtraBytesAreAccepted : Prop :=
  ∀ (s t : State) (buf extra : List Byte), s.cfg.devinfoCrcAt = .declared →
    exec (.validate buf) s = .next t → t.returned = .validated (.ok 0x12#8) →
    exec (.validate (buf ++ extra)) s = .next t

/-! ## DECODE and the frame operations -/

/-- R120: the dispatch on all eight bits of the function code. The idle event output and the returned code
beside the outcome are the model's (logs 16, 17), and so are scratch registers that keep their values (log 15). -/
def Obligations.DecodeDispatchesOnFunctionCode : Prop :=
  ∀ (s : State) (f : List Byte),
    exec (.decode 0x11#8 f) s = exec (.status f) s ∧
    exec (.decode 0x12#8 f) s = exec (.devinfo f) s ∧
    ∀ fn, fn ≠ 0x11#8 → fn ≠ 0x12#8 →
      exec (.decode fn f) s = .next
        { s with event := none, returned := .decoded fn .unhandled }

/-- R135: the same frame decoded twice gives the same state. That the outputs and the scratch are the same
too is the model's (logs 15, 16, 17). -/
def Obligations.DecodingTwiceIsDecodingOnce : Prop :=
  ∀ (s t : State) (fn : Byte) (f : List Byte),
    exec (.decode fn f) s = .next t → exec (.decode fn f) t = .next t

/-- R121, R123, R128, R134: an admitted status frame is committed as one group with its header bytes; the
valid bit is set, the scratch holds what R15 says, and nothing else changes. The outputs and scratch
registers that hold their values after the operation are the model's (logs 15, 16, 17). -/
def Obligations.StatusCommitsAnAdmittedFrame : Prop :=
  ∀ (s : State) (f : List Byte) (st t c : Byte), s.cfg.Wf → StatusAdmitted s.cfg f st t c →
    ∃ g, exec (.status f) s = .next
      { s with
        snap := { s.snap with status := g, statusValid := true }
        d :=
          { st := st, t := t, c := c
            off := BitVec.ofNat 16 (2 * c.toNat + 2 * t.toNat)
            base := BitVec.ofNat 16 (34 + (2 * c.toNat + 2 * t.toNat)) }
        event := none
        returned := .decoded 0x11#8 .statusUpdated } ∧
      g.batteryStatus = st ∧ g.tempCount = t ∧ g.cellCount = c ∧ g.Consistent s.cfg

/-- R125: cell `i` is the unsigned 16-bit value at offset `34 + 2*i`, in thousandths of a volt. -/
def Obligations.CellVoltagesAreFrameWords : Prop :=
  ∀ (s : State) (f : List Byte) (st t c : Byte), s.cfg.Wf → StatusAdmitted s.cfg f st t c →
    ∃ u, exec (.status f) s = .next u ∧
      u.snap.status.cellVoltage.map BitVec.toNat =
        ((List.range c.toNat).map fun i => leValue f (34 + 2 * i) 2) ∧
      u.snap.status.cellVolts =
        (List.range c.toNat).map fun i => (leValue f (34 + 2 * i) 2 : ℚ) / 1000

/-- R126: reading `j` is the signed 16-bit value at offset `34 + 2*C + 2*j`, in degrees; there are as
many readings as the frame's count says. -/
def Obligations.TemperaturesAreSignedFrameWords : Prop :=
  ∀ (s : State) (f : List Byte) (st t c : Byte), s.cfg.Wf → StatusAdmitted s.cfg f st t c →
    ∃ u, exec (.status f) s = .next u ∧
      u.snap.status.temperature.map BitVec.toInt =
        ((List.range t.toNat).map fun j => asI16 (leValue f (34 + 2 * c.toNat + 2 * j) 2)) ∧
      u.snap.status.degrees =
        ((List.range t.toNat).map fun j => (asI16 (leValue f (34 + 2 * c.toNat + 2 * j) 2) : ℚ)) ∧
      u.snap.status.temperature.length = u.snap.status.tempCount.toNat ∧
      u.snap.status.tempCount = t

/-- R127: the MOSFET and balancer temperatures are copies of readings `T-2` and `T-1`, absent when
`T < 2`. -/
def Obligations.ExtraTemperaturesAreCopies : Prop :=
  ∀ (s : State) (f : List Byte) (st t c : Byte), s.cfg.Wf → StatusAdmitted s.cfg f st t c →
    ∃ u, exec (.status f) s = .next u ∧
      (if 2 ≤ t.toNat then
        u.snap.status.mosfetTemperature.map BitVec.toInt =
            some (asI16 (leValue f (34 + 2 * c.toNat + 2 * (t.toNat - 2)) 2)) ∧
          u.snap.status.balancerTemperature.map BitVec.toInt =
            some (asI16 (leValue f (34 + 2 * c.toNat + 2 * (t.toNat - 1)) 2))
      else
        u.snap.status.mosfetTemperature = none ∧ u.snap.status.balancerTemperature = none)

/-- R129, R58: every field of the layout holds the raw integer its entry describes, whatever conforming
layout is configured. -/
def Obligations.LayoutFieldsHoldTheirRawIntegers : Prop :=
  ∀ (s : State) (f : List Byte) (st t c : Byte), s.cfg.Wf → StatusAdmitted s.cfg f st t c →
    ∃ u, exec (.status f) s = .next u ∧
      ∀ e ∈ s.cfg.layout.entries, u.snap.status.raw e.field =
        entryValue e (leValue f (34 + (2 * c.toNat + 2 * t.toNat) + e.disp) e.width.bytes)

/-- R65 (the reference layout, from general knowledge, log 8): where each field of the payload stands. -/
def Obligations.ReferenceLayoutPlacesTheFields : Prop :=
  ∀ (s : State) (f : List Byte) (st t c : Byte), s.cfg.Wf → s.cfg.layout = layoutRef →
    StatusAdmitted s.cfg f st t c →
    let at16 := fun disp => leValue f (34 + (2 * c.toNat + 2 * t.toNat) + disp) 2
    let at32 := fun disp => leValue f (34 + (2 * c.toNat + 2 * t.toNat) + disp) 4
    let at8 := fun disp => leValue f (34 + (2 * c.toNat + 2 * t.toNat) + disp) 1
    ∃ u, exec (.status f) s = .next u ∧
      u.snap.status.totalVoltage.toNat = at16 0 ∧ u.snap.status.current.toInt = asI16 (at16 2) ∧
      u.snap.status.soc.toNat = at16 4 ∧ u.snap.status.soh.toNat = at16 6 ∧
      u.snap.status.chargeMosfetStatus.toNat = at8 8 ∧
      u.snap.status.dischargeMosfetStatus.toNat = at8 9 ∧
      u.snap.status.balancerStatus.toNat = at8 10 ∧
      u.snap.status.capacityConfigured.toNat = at32 12 ∧
      u.snap.status.capacityRemaining.toNat = at32 16 ∧
      u.snap.status.cycleCapacity.toNat = at32 20 ∧ u.snap.status.power.toInt = asI32 (at32 24) ∧
      u.snap.status.totalRuntime.toNat = at32 28 ∧
      u.snap.status.balancedCellBitmask.toNat = at32 32 ∧
      u.snap.status.maxCellVoltage.toNat = at16 36 ∧ u.snap.status.maxVoltageCell.toNat = at16 38 ∧
      u.snap.status.minCellVoltage.toNat = at16 40 ∧ u.snap.status.minVoltageCell.toNat = at16 42 ∧
      u.snap.status.deltaCellVoltage.toNat = at16 44 ∧
      u.snap.status.averageCellVoltage.toNat = at16 46 ∧
      u.snap.status.accumulatedDischargeCapacity.toNat = at32 58 ∧
      u.snap.status.accumulatedChargeCapacity.toNat = at32 62 ∧
      u.snap.status.accumulatedDischargeTime.toNat = at32 66 ∧
      u.snap.status.accumulatedChargeTime.toNat = at32 70

/-- R122: a frame whose length is not the declared one is dropped; nothing is written. The outputs and
scratch registers that keep their values are the model's (logs 15, 16, 17). -/
def Obligations.StatusDropsAWrongLength : Prop :=
  ∀ (s : State) (f : List Byte), declaredLength f ≠ some f.length →
    exec (.status f) s = .next
      { s with event := none, returned := .decoded 0x11#8 .statusDropped }

/-- R124: too many cells, too many temperatures or a frame too short for its layout: Malformed, and the
snapshot is not changed. The outputs and scratch registers that keep their values are the model's (logs
15, 16, 17). -/
def Obligations.StatusRefusesCountsAndShortFrames : Prop :=
  ∀ (s : State) (f : List Byte) (t c : Byte), declaredLength f = some f.length →
    f[8]? = some t → f[9]? = some c →
    (32 < c.toNat ∨ 6 < t.toNat ∨
      f.length < 34 + (2 * c.toNat + 2 * t.toNat) + s.cfg.layout.size) →
    ∃ d, exec (.status f) s = .next
      { s with d := d, event := none, returned := .decoded 0x11#8 .malformed }

/-- R59, R123: the bytes the status routine does not interpret may hold any value. The answers compared hold
the outputs and the scratch as the model keeps them (logs 15, 16, 17). -/
def Obligations.StatusIgnoresUninterpretedBytes : Prop :=
  ∀ (s : State) (f f' : List Byte), f.length = f'.length →
    (∀ k ∈ [5, 7, 8, 9], f[k]? = f'[k]?) →
    (let base := 34 + (2 * (f.getD 9 0#8).toNat + 2 * (f.getD 8 0#8).toNat)
     (∀ k, 34 ≤ k → k < base → f[k]? = f'[k]?) ∧
     ∀ e ∈ s.cfg.layout.entries, ∀ k, k < e.width.bytes →
       f[base + e.disp + k]? = f'[base + e.disp + k]?) →
    exec (.status f) s = exec (.status f') s

/-- R150: both version strings are copied byte for byte and committed together, or, below 38 bytes, nothing
is. The outputs and scratch registers that keep their values are the model's (logs 15, 16, 17). -/
def Obligations.DevinfoCopiesTheVersions : Prop :=
  ∀ (s : State) (f : List Byte),
    if 38 ≤ f.length then
      ∃ g : DevInfoGroup, g.hardwareVersion.toList = (f.take 22).drop 6 ∧
        g.softwareVersion.toList = (f.take 38).drop 22 ∧
        exec (.devinfo f) s = .next
          { s with
            snap := { s.snap with devinfo := g, devinfoValid := true }
            event := none
            returned := .decoded 0x12#8 .devInfoUpdated }
    else
      exec (.devinfo f) s = .next
        { s with event := none, returned := .decoded 0x12#8 .malformed }

/-- R151, R60: FN13, FN14, FN15, FN16, FN42, FN43, FN61, REQ_STATUS, REQ_DEVINFO, REQ_WRITE and, for a
code R53 does not list, FNxx report their function code as unhandled and change nothing; a validated frame of
a code other than 0x11 and 0x12 is still emitted by its FEED, and the log says unhandled. The outputs are the
model's (logs 16, 17, 26), so are scratch registers that keep their values (log 15), and so is that byte 2 of
the frame is not tested again (log 29). -/
def Obligations.UnhandledCodesChangeNothing : Prop :=
  ∀ (s : State) (f : List Byte) (code : Byte),
    let reported := fun fn => Host.Outcome.next (φ := Fault) (ρ := Refusal)
      { s with event := none, returned := .decoded fn .unhandled }
    exec (.fn13 f) s = reported 0x13#8 ∧ exec (.fn14 f) s = reported 0x14#8 ∧
      exec (.fn15 f) s = reported 0x15#8 ∧ exec (.fn16 f) s = reported 0x16#8 ∧
      exec (.fn42 f) s = reported 0x42#8 ∧ exec (.fn43 f) s = reported 0x43#8 ∧
      exec (.fn61 f) s = reported 0x61#8 ∧ exec (.reqStatus f) s = reported 0x01#8 ∧
      exec (.reqDevinfo f) s = reported 0x02#8 ∧ exec (.reqWrite f) s = reported 0x51#8 ∧
      (code ∉ listedCodes → exec (.fnxx code f) s = reported code) ∧
      ∀ payload : List Byte, code ≠ 0x11#8 → code ≠ 0x12#8 → payload.length ≤ 255 →
        (frameOf code payload).length ≤ s.cfg.chunkMax →
        ∃ t r, exec (.feed (frameOf code payload)) s = .next t ∧ t.event = some r ∧
          r.completeFrame = some (code, frameOf code payload) ∧ Cause.unhandled ∈ r.log ∧
          t.snap = s.snap

/-! ## Operands -/

/-- R31, R9: 16-bit and 32-bit reads are little-endian at any offset, and a read that would fall outside
has no value. -/
def Obligations.ReadsAreLittleEndian : Prop :=
  ∀ (f : List Byte) (o : Nat),
    (rd16 f o).map BitVec.toNat = (if o + 2 ≤ f.length then some (leValue f o 2) else none) ∧
    (rd32 f o).map BitVec.toNat = (if o + 4 ≤ f.length then
      some (leValue f o 2 + 65536 * leValue f (o + 2) 2) else none)

/-- R16, R130: the physical values are the raw integers times the exact powers of ten of R16's table; the
codes and the bitmask have no scale. -/
def Obligations.PhysicalValuesAreExact : Prop :=
  ∀ g : StatusGroup,
    g.physical .totalVoltage = some (g.totalVoltage.toNat / 100 : ℚ) ∧
    g.physical .current = some (g.current.toInt / 10 : ℚ) ∧
    g.physical .soc = some (g.soc.toNat : ℚ) ∧ g.physical .soh = some (g.soh.toNat : ℚ) ∧
    g.physical .capacityConfigured = some (g.capacityConfigured.toNat / 1000000 : ℚ) ∧
    g.physical .capacityRemaining = some (g.capacityRemaining.toNat / 1000000 : ℚ) ∧
    g.physical .cycleCapacity = some (g.cycleCapacity.toNat / 1000 : ℚ) ∧
    g.physical .power = some (g.power.toInt : ℚ) ∧
    g.physical .maxCellVoltage = some (g.maxCellVoltage.toNat / 1000 : ℚ) ∧
    g.physical .maxVoltageCell = some (g.maxVoltageCell.toNat : ℚ) ∧
    g.physical .minCellVoltage = some (g.minCellVoltage.toNat / 1000 : ℚ) ∧
    g.physical .minVoltageCell = some (g.minVoltageCell.toNat : ℚ) ∧
    g.physical .deltaCellVoltage = some (g.deltaCellVoltage.toNat / 1000 : ℚ) ∧
    g.physical .averageCellVoltage = some (g.averageCellVoltage.toNat / 1000 : ℚ) ∧
    g.physical .accumulatedDischargeCapacity =
      some (g.accumulatedDischargeCapacity.toNat / 1000 : ℚ) ∧
    g.physical .accumulatedChargeCapacity = some (g.accumulatedChargeCapacity.toNat / 1000 : ℚ) ∧
    g.physical .totalRuntime = some (g.totalRuntime.toNat : ℚ) ∧
    g.physical .accumulatedDischargeTime = some (g.accumulatedDischargeTime.toNat : ℚ) ∧
    g.physical .accumulatedChargeTime = some (g.accumulatedChargeTime.toNat : ℚ) ∧
    g.cellVolts = g.cellVoltage.map (fun h => (h.toNat / 1000 : ℚ)) ∧
    g.degrees = g.temperature.map (fun h => (h.toInt : ℚ)) ∧
    g.mosfetDegrees = g.mosfetTemperature.map (fun h => (h.toInt : ℚ)) ∧
    g.balancerDegrees = g.balancerTemperature.map (fun h => (h.toInt : ℚ)) ∧
    ∀ x ∈ ([.chargeMosfetStatus, .dischargeMosfetStatus, .balancerStatus, .balancedCellBitmask] :
      List StatusField), g.physical x = none

/-- R133: the reference rendering, case by case. The reference body is the spec's choice for an open
parameter (log 11). -/
def Obligations.DurationDropsLeadingZeroUnits : Prop :=
  ∀ s : Nat, referenceDuration s =
    if s < 3600 then ""
    else if s < 86400 then toString (s / 3600) ++ "h"
    else if s < 31536000 then toString (s / 86400) ++ "d " ++ toString (s % 86400 / 3600) ++ "h"
    else toString (s / 31536000) ++ "y " ++ toString (s % 31536000 / 86400) ++ "d " ++
      toString (s % 86400 / 3600) ++ "h"

/-- R131: a lookup outside the table or at an unused slot renders Unknown, a used slot its text. -/
def Obligations.LookupRendersUnknown : Prop :=
  ∀ (n : Nat) (table : Vector (Option String) n) (code : Byte),
    (n ≤ code.toNat → lut table code = "Unknown") ∧
    ∀ h : code.toNat < n, lut table code = (table[code.toNat]'h).getD "Unknown"

/-- R132, D14: code 1 is `Idle` under every conforming configuration, and a code past the names is Unknown.
The number of names is open (log 31). -/
def Obligations.BatteryStatusOneIsIdle : Prop :=
  ∀ cfg : Config, cfg.Wf →
    batteryStatusName cfg 1#8 = "Idle" ∧
    ∀ code : Byte, cfg.batteryStatusNames.length ≤ code.toNat → batteryStatusName cfg code = "Unknown"

/-- R55, R65, R66: the reference and the packed layout conform, with the sizes the rules give; so an exactly
sized frame of 14 cells and 6 temperatures is 152, respectively 141, bytes. The displacements are not
the source's (log 8), and what conforms rests on logs 19 and 32. -/
def Obligations.BothLayoutsConform : Prop :=
  layoutRef.Wf ∧ layoutPacked.Wf ∧ 34 + 2 * 14 + 2 * 6 + layoutRef.size + 4 = 152 ∧
    34 + 2 * 14 + 2 * 6 + layoutPacked.size + 4 = 141

/-- R160, R163, R165: a FEED reports at most the overflow and one more cause, and its log is those causes
but for the silent drop, code 6. The log as a list read from the record is the model's (log 26). -/
def Obligations.FeedReportsAtMostTwoCauses : Prop :=
  ∀ r : FeedResult, r.causes.length ≤ 2 ∧
    (r.overflowCleared = true ↔ 1 ∈ r.causes.map Cause.code) ∧
    (∀ c, c ∈ r.log ↔ c ∈ r.causes ∧ c.code ≠ 6)
end

