-- ==== Sys2Proof/Laws/Checksum.lean ====
section
/-! SUPPORT. The Checksum unit's small lemmas: the loop over an empty sequence, over one more byte at the
front, and as a fold. -/
namespace Sys2Proof.Machine

/-- `withValue` only makes its argument a numeral. -/
@[simp] theorem withValue_eq {α : Type} (x : Half) (k : Half → α) : withValue x k = k x := by
  have hx : BitVec.ofNat 16 x.toNat = x := by simp
  unfold withValue
  split
  · next h => rw [← hx, h]
  · next n h => rw [← hx, h]

@[simp] theorem crcFrom_nil (acc : Half) : crcFrom acc [] = acc := rfl

@[simp] theorem crcFrom_cons (acc : Half) (b : Byte) (rest : List Byte) :
    crcFrom acc (b :: rest) = crcFrom (crcByte acc b) rest := by
  simp [crcFrom]

/-- The loop is a left fold of `crcByte`. -/
theorem crcFrom_eq_foldl (b : List Byte) : ∀ acc, crcFrom acc b = b.foldl crcByte acc := by
  induction b with
  | nil => intro acc; rfl
  | cons x rest ih => intro acc; simp [ih]

end Sys2Proof.Machine
end

