-- ==== Sys2Proof/Laws/Memory.lean ====
section
/-! SUPPORT. The frame buffer's laws: read after append, and the canonical form of its cells, kept by
both writes and held at reset. -/
namespace Sys2Proof.Machine

/-- The cells of every buffer are in canonical form. -/
theorem bufferCells_wf (b : List Byte) : Memory.wf (bufferCells b) = true := by
  unfold Memory.wf bufferCells
  rw [decide_eq_true_eq, List.pairwise_iff_getElem]
  intro i j hi hj hij
  simpa using hij

theorem clearBuffer_wf (s : State) : Memory.wf (bufferCells s.clearBuffer.fb) = true :=
  bufferCells_wf _

theorem appendBuffer_wf (s : State) (c : List Byte) :
    Memory.wf (bufferCells (s.appendBuffer c).fb) = true :=
  bufferCells_wf _

theorem reset_wf : Memory.wf (bufferCells State.reset.fb) = true := bufferCells_wf _

/-- An append leaves every byte already held where it was (R37). -/
theorem readByte_append_old (s : State) (c : List Byte) (k : Nat) (h : k < s.fb.length) :
    readByte (s.appendBuffer c).fb k = readByte s.fb k := by
  simp [readByte, State.appendBuffer, List.getElem?_append_left h]

/-- An appended byte is read at its offset after the old bytes (R37). -/
theorem readByte_append_new (s : State) (c : List Byte) (k : Nat) :
    readByte (s.appendBuffer c).fb (s.fb.length + k) = readByte c k := by
  simp [readByte, State.appendBuffer, List.getElem?_append_right]

/-- After a clear nothing is addressable (R37). -/
theorem readByte_clear (s : State) (k : Nat) : readByte s.clearBuffer.fb k = none := by
  simp [readByte, State.clearBuffer]

end Sys2Proof.Machine
end

