-- ==== Sys2Proof/Laws/Operands.lean ====
section
/-! SUPPORT. What the reads can answer: `rd8` is the byte, `rd16` and `rd32` exist exactly inside the
sequence, `readHalves` gives as many values as asked. -/
namespace Sys2Proof.Machine

/-- `rd8` reads one byte. -/
theorem rd8_eq (f : List Byte) (o : Nat) : rd8 f o = f[o]? := by
  unfold rd8 memRead memRead
  cases h : f[o]? <;> simp

/-- A little-endian read of `n + 1` bytes, where it has a value. -/
theorem memRead_succ_eq_some {f : List Byte} {o n v : Nat} :
    memRead f o (n + 1) = some v ↔
      ∃ b r, f[o]? = some b ∧ memRead f (o + 1) n = some r ∧ v = b.toNat + 256 * r := by
  rw [memRead]
  cases h : f[o]? <;> cases h' : memRead f (o + 1) n <;> simp [eq_comm]

/-- A read of at least one byte has a value exactly when it lies inside the sequence (R35). -/
theorem memRead_isSome (f : List Byte) (n : Nat) :
    ∀ o, (memRead f o (n + 1)).isSome = decide (o + (n + 1) ≤ f.length) := by
  induction n with
  | zero =>
    intro o
    rw [memRead, memRead]
    by_cases h : o < f.length
    · simp [List.getElem?_eq_getElem h]; omega
    · simp [List.getElem?_eq_none (not_lt.mp h)]; omega
  | succ n ih =>
    intro o
    have ih' := ih (o + 1)
    rw [memRead]
    by_cases h : o < f.length
    · rw [List.getElem?_eq_getElem h]
      cases hm : memRead f (o + 1) (n + 1) with
      | none => rw [hm] at ih'; simp at ih' ⊢; omega
      | some r => rw [hm] at ih'; simp at ih' ⊢; omega
    · simp [List.getElem?_eq_none (not_lt.mp h)]; omega

/-- `rd16` has a value exactly inside the sequence. -/
theorem rd16_isSome (f : List Byte) (o : Nat) : (rd16 f o).isSome = decide (o + 2 ≤ f.length) := by
  simpa [rd16] using memRead_isSome f 1 o

/-- `rd32` has a value exactly inside the sequence. -/
theorem rd32_isSome (f : List Byte) (o : Nat) : (rd32 f o).isSome = decide (o + 4 ≤ f.length) := by
  simpa [rd32] using memRead_isSome f 3 o

/-- Reading one more 16-bit value, where it has a value. -/
theorem readHalves_succ_eq_some {f : List Byte} {o k : Nat} {hs : List Half} :
    readHalves f o (k + 1) = some hs ↔
      ∃ h rest, rd16 f o = some h ∧ readHalves f (o + 2) k = some rest ∧ hs = h :: rest := by
  rw [readHalves]
  cases h : rd16 f o <;> cases h' : readHalves f (o + 2) k <;> simp [eq_comm]

/-- `readHalves` gives as many values as it was asked for. -/
theorem readHalves_length {f : List Byte} :
    ∀ {k o : Nat} {hs : List Half}, readHalves f o k = some hs → hs.length = k := by
  intro k
  induction k with
  | zero => intro o hs h; simp [readHalves] at h; simp [← h]
  | succ k ih =>
    intro o hs h
    obtain ⟨x, rest, -, hr, rfl⟩ := readHalves_succ_eq_some.mp h
    simp [ih hr]

/-- `readHalves` has a value exactly when all it reads lies inside the sequence, and always for none. -/
theorem readHalves_isSome (f : List Byte) (k : Nat) :
    ∀ o, (readHalves f o k).isSome = decide (k = 0 ∨ o + 2 * k ≤ f.length) := by
  induction k with
  | zero => intro o; simp [readHalves]
  | succ k ih =>
    intro o
    have h1 := rd16_isSome f o
    have h2 := ih (o + 2)
    rw [readHalves]
    cases ha : rd16 f o <;> cases hb : readHalves f (o + 2) k <;>
      (rw [ha] at h1; rw [hb] at h2; simp at h1 h2 ⊢; omega)

/-- The 16 bytes read are the slice. -/
theorem readBytes16_eq_some {f : List Byte} {o : Nat} {x : Vector Byte 16} :
    readBytes16 f o = some x → x.toList = slice f o (o + 16) := by
  unfold readBytes16
  split
  · intro h; simp only [Option.some.injEq] at h; subst h; simp
  · simp

/-- The 16 bytes exist when the frame is long enough. -/
theorem readBytes16_isSome {f : List Byte} {o : Nat} (h : o + 16 ≤ f.length) :
    (readBytes16 f o).isSome = true := by
  have : (slice f o (o + 16)).length = 16 := by simp [slice]; omega
  simp [readBytes16, this]

end Sys2Proof.Machine
end

