-- ==== Sys2Proof/Laws/PerInstr.lean ====
section
/-! SUPPORT. A family of facts about every operation as syntax. -/
namespace Sys2Proof.Laws

/-- Encoding puts an operation at its own input, and a well-formed frame operation as its frame. -/
def EncodedAtItsInput.Statement (i : Instr) : Prop :=
  (encode i).select = i.select ∧
    ∀ cfg f, i.wellFormed cfg = true → i.frame? = some f → (encode i).bytes = f

/-- Writing a function code that is already there changes nothing. -/
theorem withFunctionCode_of_carries {fn : Byte} {f : List Byte} (h : carriesCode fn f = true) :
    withFunctionCode fn f = f := by
  simp only [carriesCode, beq_iff_eq] at h
  unfold withFunctionCode
  exact List.ext_getElem? fun k => by
    by_cases hk : k = 2
    · subst hk
      have hl : 2 < f.length := by
        by_contra hn
        rw [List.getElem?_eq_none (not_lt.mp hn)] at h
        exact absurd h (by simp)
      rw [h]; simp [hl]
    · simp [Ne.symm hk]

theorem EncodedAtItsInput.reset : EncodedAtItsInput.Statement .reset :=
  ⟨rfl, fun _ _ _ h => by simp [Instr.frame?] at h⟩

theorem EncodedAtItsInput.snapRead : EncodedAtItsInput.Statement .snapRead :=
  ⟨rfl, fun _ _ _ h => by simp [Instr.frame?] at h⟩

theorem EncodedAtItsInput.feed (b : List Byte) : EncodedAtItsInput.Statement (.feed b) :=
  ⟨rfl, fun _ _ _ h => by simp [Instr.frame?] at h⟩

theorem EncodedAtItsInput.crc16 (b : List Byte) : EncodedAtItsInput.Statement (.crc16 b) :=
  ⟨rfl, fun _ _ _ h => by simp [Instr.frame?] at h⟩

theorem EncodedAtItsInput.validate (b : List Byte) : EncodedAtItsInput.Statement (.validate b) :=
  ⟨rfl, fun _ _ _ h => by simp [Instr.frame?] at h⟩

theorem EncodedAtItsInput.decode (fn : Byte) (f : List Byte) : EncodedAtItsInput.Statement (.decode fn f) :=
  ⟨rfl, fun _ _ _ h => by simp [Instr.frame?] at h⟩

theorem EncodedAtItsInput.status (f : List Byte) : EncodedAtItsInput.Statement (.status f) :=
  ⟨rfl, fun _ _ hw h => by cases h; exact withFunctionCode_of_carries hw⟩

theorem EncodedAtItsInput.devinfo (f : List Byte) : EncodedAtItsInput.Statement (.devinfo f) :=
  ⟨rfl, fun _ _ hw h => by cases h; exact withFunctionCode_of_carries hw⟩

theorem EncodedAtItsInput.fn13 (f : List Byte) : EncodedAtItsInput.Statement (.fn13 f) :=
  ⟨rfl, fun _ _ hw h => by cases h; exact withFunctionCode_of_carries hw⟩

theorem EncodedAtItsInput.fn14 (f : List Byte) : EncodedAtItsInput.Statement (.fn14 f) :=
  ⟨rfl, fun _ _ hw h => by cases h; exact withFunctionCode_of_carries hw⟩

theorem EncodedAtItsInput.fn15 (f : List Byte) : EncodedAtItsInput.Statement (.fn15 f) :=
  ⟨rfl, fun _ _ hw h => by cases h; exact withFunctionCode_of_carries hw⟩

theorem EncodedAtItsInput.fn16 (f : List Byte) : EncodedAtItsInput.Statement (.fn16 f) :=
  ⟨rfl, fun _ _ hw h => by cases h; exact withFunctionCode_of_carries hw⟩

theorem EncodedAtItsInput.fn42 (f : List Byte) : EncodedAtItsInput.Statement (.fn42 f) :=
  ⟨rfl, fun _ _ hw h => by cases h; exact withFunctionCode_of_carries hw⟩

theorem EncodedAtItsInput.fn43 (f : List Byte) : EncodedAtItsInput.Statement (.fn43 f) :=
  ⟨rfl, fun _ _ hw h => by cases h; exact withFunctionCode_of_carries hw⟩

theorem EncodedAtItsInput.fn61 (f : List Byte) : EncodedAtItsInput.Statement (.fn61 f) :=
  ⟨rfl, fun _ _ hw h => by cases h; exact withFunctionCode_of_carries hw⟩

theorem EncodedAtItsInput.reqStatus (f : List Byte) : EncodedAtItsInput.Statement (.reqStatus f) :=
  ⟨rfl, fun _ _ hw h => by cases h; exact withFunctionCode_of_carries hw⟩

theorem EncodedAtItsInput.reqDevinfo (f : List Byte) : EncodedAtItsInput.Statement (.reqDevinfo f) :=
  ⟨rfl, fun _ _ hw h => by cases h; exact withFunctionCode_of_carries hw⟩

theorem EncodedAtItsInput.reqWrite (f : List Byte) : EncodedAtItsInput.Statement (.reqWrite f) :=
  ⟨rfl, fun _ _ hw h => by cases h; exact withFunctionCode_of_carries hw⟩

theorem EncodedAtItsInput.fnxx (fn : Byte) (f : List Byte) : EncodedAtItsInput.Statement (.fnxx fn f) :=
  ⟨rfl, fun _ _ hw h => by
    cases h
    simp only [Instr.wellFormed, Bool.and_eq_true] at hw
    exact withFunctionCode_of_carries hw.1⟩

end Sys2Proof.Laws
end

