-- ==== Sys2Proof/Laws/State.lean ====
section
/-! SUPPORT. One lemma per field per update of the state, true by `rfl`. -/
namespace Sys2Proof.Machine

variable (s : State)

/-! `clearBuffer` -/

@[simp] theorem State.clearBuffer_cfg : (s.clearBuffer).cfg = s.cfg := rfl
@[simp] theorem State.clearBuffer_fb : (s.clearBuffer).fb = [] := rfl
@[simp] theorem State.clearBuffer_snap : (s.clearBuffer).snap = s.snap := rfl
@[simp] theorem State.clearBuffer_crcAcc : (s.clearBuffer).crcAcc = s.crcAcc := rfl
@[simp] theorem State.clearBuffer_v : (s.clearBuffer).v = s.v := rfl
@[simp] theorem State.clearBuffer_d : (s.clearBuffer).d = s.d := rfl
@[simp] theorem State.clearBuffer_event : (s.clearBuffer).event = s.event := rfl
@[simp] theorem State.clearBuffer_returned : (s.clearBuffer).returned = s.returned := rfl
@[simp] theorem State.clearBuffer_pending : (s.clearBuffer).pending = s.pending := rfl
@[simp] theorem State.clearBuffer_freeCount : (s.clearBuffer).freeCount = s.freeCount := rfl

/-! `appendBuffer` -/

@[simp] theorem State.appendBuffer_cfg (c : List Byte) : (s.appendBuffer c).cfg = s.cfg := rfl
@[simp] theorem State.appendBuffer_fb (c : List Byte) : (s.appendBuffer c).fb = s.fb ++ c := rfl
@[simp] theorem State.appendBuffer_snap (c : List Byte) : (s.appendBuffer c).snap = s.snap := rfl
@[simp] theorem State.appendBuffer_crcAcc (c : List Byte) :
    (s.appendBuffer c).crcAcc = s.crcAcc :=
  rfl
@[simp] theorem State.appendBuffer_v (c : List Byte) : (s.appendBuffer c).v = s.v := rfl
@[simp] theorem State.appendBuffer_d (c : List Byte) : (s.appendBuffer c).d = s.d := rfl
@[simp] theorem State.appendBuffer_event (c : List Byte) : (s.appendBuffer c).event = s.event := rfl
@[simp] theorem State.appendBuffer_returned (c : List Byte) :
    (s.appendBuffer c).returned = s.returned :=
  rfl
@[simp] theorem State.appendBuffer_pending (c : List Byte) :
    (s.appendBuffer c).pending = s.pending :=
  rfl
@[simp] theorem State.appendBuffer_freeCount (c : List Byte) :
    (s.appendBuffer c).freeCount = s.freeCount :=
  rfl

/-! `setCrcAcc` -/

@[simp] theorem State.setCrcAcc_cfg (c : Half) : (s.setCrcAcc c).cfg = s.cfg := rfl
@[simp] theorem State.setCrcAcc_fb (c : Half) : (s.setCrcAcc c).fb = s.fb := rfl
@[simp] theorem State.setCrcAcc_snap (c : Half) : (s.setCrcAcc c).snap = s.snap := rfl
@[simp] theorem State.setCrcAcc_crcAcc (c : Half) : (s.setCrcAcc c).crcAcc = c := rfl
@[simp] theorem State.setCrcAcc_v (c : Half) : (s.setCrcAcc c).v = s.v := rfl
@[simp] theorem State.setCrcAcc_d (c : Half) : (s.setCrcAcc c).d = s.d := rfl
@[simp] theorem State.setCrcAcc_event (c : Half) : (s.setCrcAcc c).event = s.event := rfl
@[simp] theorem State.setCrcAcc_returned (c : Half) : (s.setCrcAcc c).returned = s.returned := rfl
@[simp] theorem State.setCrcAcc_pending (c : Half) : (s.setCrcAcc c).pending = s.pending := rfl
@[simp] theorem State.setCrcAcc_freeCount (c : Half) :
    (s.setCrcAcc c).freeCount = s.freeCount :=
  rfl

/-! `setValidator` -/

@[simp] theorem State.setValidator_cfg (v : ValidatorScratch) :
    (s.setValidator v).cfg = s.cfg :=
  rfl
@[simp] theorem State.setValidator_fb (v : ValidatorScratch) : (s.setValidator v).fb = s.fb := rfl
@[simp] theorem State.setValidator_snap (v : ValidatorScratch) :
    (s.setValidator v).snap = s.snap :=
  rfl
@[simp] theorem State.setValidator_crcAcc (v : ValidatorScratch) :
    (s.setValidator v).crcAcc = s.crcAcc :=
  rfl
@[simp] theorem State.setValidator_v (v : ValidatorScratch) : (s.setValidator v).v = v := rfl
@[simp] theorem State.setValidator_d (v : ValidatorScratch) : (s.setValidator v).d = s.d := rfl
@[simp] theorem State.setValidator_event (v : ValidatorScratch) :
    (s.setValidator v).event = s.event :=
  rfl
@[simp] theorem State.setValidator_returned (v : ValidatorScratch) :
    (s.setValidator v).returned = s.returned :=
  rfl
@[simp] theorem State.setValidator_pending (v : ValidatorScratch) :
    (s.setValidator v).pending = s.pending :=
  rfl
@[simp] theorem State.setValidator_freeCount (v : ValidatorScratch) :
    (s.setValidator v).freeCount = s.freeCount :=
  rfl

/-! `setDecoder` -/

@[simp] theorem State.setDecoder_cfg (d : DecoderScratch) : (s.setDecoder d).cfg = s.cfg := rfl
@[simp] theorem State.setDecoder_fb (d : DecoderScratch) : (s.setDecoder d).fb = s.fb := rfl
@[simp] theorem State.setDecoder_snap (d : DecoderScratch) : (s.setDecoder d).snap = s.snap := rfl
@[simp] theorem State.setDecoder_crcAcc (d : DecoderScratch) :
    (s.setDecoder d).crcAcc = s.crcAcc :=
  rfl
@[simp] theorem State.setDecoder_v (d : DecoderScratch) : (s.setDecoder d).v = s.v := rfl
@[simp] theorem State.setDecoder_d (d : DecoderScratch) : (s.setDecoder d).d = d := rfl
@[simp] theorem State.setDecoder_event (d : DecoderScratch) :
    (s.setDecoder d).event = s.event :=
  rfl
@[simp] theorem State.setDecoder_returned (d : DecoderScratch) :
    (s.setDecoder d).returned = s.returned :=
  rfl
@[simp] theorem State.setDecoder_pending (d : DecoderScratch) :
    (s.setDecoder d).pending = s.pending :=
  rfl
@[simp] theorem State.setDecoder_freeCount (d : DecoderScratch) :
    (s.setDecoder d).freeCount = s.freeCount :=
  rfl

/-! `commitStatus` -/

@[simp] theorem State.commitStatus_cfg (g : StatusGroup) : (s.commitStatus g).cfg = s.cfg := rfl
@[simp] theorem State.commitStatus_fb (g : StatusGroup) : (s.commitStatus g).fb = s.fb := rfl
@[simp] theorem State.commitStatus_snap (g : StatusGroup) :
    (s.commitStatus g).snap = { s.snap with status := g, statusValid := true } :=
  rfl
@[simp] theorem State.commitStatus_crcAcc (g : StatusGroup) :
    (s.commitStatus g).crcAcc = s.crcAcc :=
  rfl
@[simp] theorem State.commitStatus_v (g : StatusGroup) : (s.commitStatus g).v = s.v := rfl
@[simp] theorem State.commitStatus_d (g : StatusGroup) : (s.commitStatus g).d = s.d := rfl
@[simp] theorem State.commitStatus_event (g : StatusGroup) :
    (s.commitStatus g).event = s.event :=
  rfl
@[simp] theorem State.commitStatus_returned (g : StatusGroup) :
    (s.commitStatus g).returned = s.returned :=
  rfl
@[simp] theorem State.commitStatus_pending (g : StatusGroup) :
    (s.commitStatus g).pending = s.pending :=
  rfl
@[simp] theorem State.commitStatus_freeCount (g : StatusGroup) :
    (s.commitStatus g).freeCount = s.freeCount :=
  rfl

/-! `commitDevinfo` -/

@[simp] theorem State.commitDevinfo_cfg (g : DevInfoGroup) : (s.commitDevinfo g).cfg = s.cfg := rfl
@[simp] theorem State.commitDevinfo_fb (g : DevInfoGroup) : (s.commitDevinfo g).fb = s.fb := rfl
@[simp] theorem State.commitDevinfo_snap (g : DevInfoGroup) :
    (s.commitDevinfo g).snap = { s.snap with devinfo := g, devinfoValid := true } :=
  rfl
@[simp] theorem State.commitDevinfo_crcAcc (g : DevInfoGroup) :
    (s.commitDevinfo g).crcAcc = s.crcAcc :=
  rfl
@[simp] theorem State.commitDevinfo_v (g : DevInfoGroup) : (s.commitDevinfo g).v = s.v := rfl
@[simp] theorem State.commitDevinfo_d (g : DevInfoGroup) : (s.commitDevinfo g).d = s.d := rfl
@[simp] theorem State.commitDevinfo_event (g : DevInfoGroup) :
    (s.commitDevinfo g).event = s.event :=
  rfl
@[simp] theorem State.commitDevinfo_returned (g : DevInfoGroup) :
    (s.commitDevinfo g).returned = s.returned :=
  rfl
@[simp] theorem State.commitDevinfo_pending (g : DevInfoGroup) :
    (s.commitDevinfo g).pending = s.pending :=
  rfl
@[simp] theorem State.commitDevinfo_freeCount (g : DevInfoGroup) :
    (s.commitDevinfo g).freeCount = s.freeCount :=
  rfl

/-! `returning` -/

@[simp] theorem State.returning_cfg (r : Returned) : (s.returning r).cfg = s.cfg := rfl
@[simp] theorem State.returning_fb (r : Returned) : (s.returning r).fb = s.fb := rfl
@[simp] theorem State.returning_snap (r : Returned) : (s.returning r).snap = s.snap := rfl
@[simp] theorem State.returning_crcAcc (r : Returned) : (s.returning r).crcAcc = s.crcAcc := rfl
@[simp] theorem State.returning_v (r : Returned) : (s.returning r).v = s.v := rfl
@[simp] theorem State.returning_d (r : Returned) : (s.returning r).d = s.d := rfl
@[simp] theorem State.returning_event (r : Returned) : (s.returning r).event = none := rfl
@[simp] theorem State.returning_returned (r : Returned) : (s.returning r).returned = r := rfl
@[simp] theorem State.returning_pending (r : Returned) : (s.returning r).pending = s.pending := rfl
@[simp] theorem State.returning_freeCount (r : Returned) :
    (s.returning r).freeCount = s.freeCount :=
  rfl

/-! `emitting` -/

@[simp] theorem State.emitting_cfg (r : FeedResult) : (s.emitting r).cfg = s.cfg := rfl
@[simp] theorem State.emitting_fb (r : FeedResult) : (s.emitting r).fb = s.fb := rfl
@[simp] theorem State.emitting_snap (r : FeedResult) : (s.emitting r).snap = s.snap := rfl
@[simp] theorem State.emitting_crcAcc (r : FeedResult) : (s.emitting r).crcAcc = s.crcAcc := rfl
@[simp] theorem State.emitting_v (r : FeedResult) : (s.emitting r).v = s.v := rfl
@[simp] theorem State.emitting_d (r : FeedResult) : (s.emitting r).d = s.d := rfl
@[simp] theorem State.emitting_event (r : FeedResult) : (s.emitting r).event = some r := rfl
@[simp] theorem State.emitting_returned (r : FeedResult) : (s.emitting r).returned = .feed r := rfl
@[simp] theorem State.emitting_pending (r : FeedResult) : (s.emitting r).pending = s.pending := rfl
@[simp] theorem State.emitting_freeCount (r : FeedResult) :
    (s.emitting r).freeCount = s.freeCount :=
  rfl

/-! `resetOperation` -/

@[simp] theorem State.resetOperation_cfg : (s.resetOperation).cfg = s.cfg := rfl
@[simp] theorem State.resetOperation_fb : (s.resetOperation).fb = [] := rfl
@[simp] theorem State.resetOperation_snap :
    (s.resetOperation).snap = ⟨false, Config.freeStatus s.freeCount, false,
      Config.freeDevInfo s.freeCount⟩ :=
  rfl
@[simp] theorem State.resetOperation_crcAcc :
    (s.resetOperation).crcAcc = Config.freeCrcAcc s.freeCount :=
  rfl
@[simp] theorem State.resetOperation_v :
    (s.resetOperation).v = Config.freeValidator s.freeCount :=
  rfl
@[simp] theorem State.resetOperation_d :
    (s.resetOperation).d = Config.freeDecoder s.freeCount :=
  rfl
@[simp] theorem State.resetOperation_event : (s.resetOperation).event = s.event := rfl
@[simp] theorem State.resetOperation_returned : (s.resetOperation).returned = s.returned := rfl
@[simp] theorem State.resetOperation_pending : (s.resetOperation).pending = s.pending := rfl
@[simp] theorem State.resetOperation_freeCount :
    (s.resetOperation).freeCount = s.freeCount + 1 :=
  rfl

end Sys2Proof.Machine
end

