-- ==== Sys2Proof/Laws/Status.lean ====
section
/-! SUPPORT. What a status group read from a frame holds, said once. -/
namespace Sys2Proof.Machine

/-- The register of a layout field, widened with zeros. -/
def StatusGroup.register (g : StatusGroup) : StatusField → Word
  | .totalVoltage => g.totalVoltage.setWidth 32
  | .current => g.current.setWidth 32
  | .soc => g.soc.setWidth 32
  | .soh => g.soh.setWidth 32
  | .chargeMosfetStatus => g.chargeMosfetStatus.setWidth 32
  | .dischargeMosfetStatus => g.dischargeMosfetStatus.setWidth 32
  | .balancerStatus => g.balancerStatus.setWidth 32
  | .capacityConfigured => g.capacityConfigured
  | .capacityRemaining => g.capacityRemaining
  | .cycleCapacity => g.cycleCapacity
  | .power => g.power
  | .totalRuntime => g.totalRuntime
  | .balancedCellBitmask => g.balancedCellBitmask
  | .maxCellVoltage => g.maxCellVoltage.setWidth 32
  | .maxVoltageCell => g.maxVoltageCell.setWidth 32
  | .minCellVoltage => g.minCellVoltage.setWidth 32
  | .minVoltageCell => g.minVoltageCell.setWidth 32
  | .deltaCellVoltage => g.deltaCellVoltage.setWidth 32
  | .averageCellVoltage => g.averageCellVoltage.setWidth 32
  | .accumulatedDischargeCapacity => g.accumulatedDischargeCapacity
  | .accumulatedChargeCapacity => g.accumulatedChargeCapacity
  | .accumulatedDischargeTime => g.accumulatedDischargeTime
  | .accumulatedChargeTime => g.accumulatedChargeTime

/-- Everything a group read from a frame holds (R121, R125 to R133): the header bytes, the two sequences,
the copies, each field's bits, and the texts. -/
structure ReadFrom (cfg : Config) (f : List Byte) (st t c : Byte) (g : StatusGroup) : Prop where
  batteryStatus : g.batteryStatus = st
  tempCount : g.tempCount = t
  cellCount : g.cellCount = c
  cells : readHalves f cellBase c.toNat = some g.cellVoltage
  temps : readHalves f (cellBase + 2 * c.toNat) t.toNat = some g.temperature
  mosfet : g.mosfetTemperature = extraTemperature g.temperature 2
  balancer : g.balancerTemperature = extraTemperature g.temperature 1
  fields : ∀ x, ∃ w, readField cfg.layout f (fieldBase t c) x = some w ∧
    g.register x = (w.setWidth (8 * x.registerBytes)).setWidth 32
  chargeText : g.chargeMosfetText = lut cfg.lutCharge g.chargeMosfetStatus
  dischargeText : g.dischargeMosfetText = lut cfg.lutDischarge g.dischargeMosfetStatus
  balancerText : g.balancerText = lut cfg.lutBalancer g.balancerStatus
  runtimeText : g.totalRuntimeText = renderDuration cfg.duration g.totalRuntime
  dischargeTimeText :
    g.accumulatedDischargeTimeText = renderDuration cfg.duration g.accumulatedDischargeTime
  chargeTimeText :
    g.accumulatedChargeTimeText = renderDuration cfg.duration g.accumulatedChargeTime

/-- The fields are read exactly when each has a value, and then they are those values. -/
theorem readFields_eq_some {L : StatusLayout} {f : List Byte} {base : Nat} {w : StatusField → Word} :
    readFields L f base = some w ↔ ∀ x, readField L f base x = some (w x) := by
  unfold readFields
  constructor
  · intro h x
    split at h
    · cases h; simp
    · cases h
  · intro h
    have hall : StatusField.all.all (fun x => (readField L f base x).isSome) = true := by simp [h]
    rw [dif_pos hall]
    simp [h]

/-- A group read from a frame is built from the three reads. -/
theorem readStatusGroup_eq_some {cfg : Config} {f : List Byte} {st t c : Byte} {g : StatusGroup} :
    readStatusGroup cfg f st t c = some g ↔ ∃ cells temps w,
      readHalves f cellBase c.toNat = some cells ∧
      readHalves f (cellBase + 2 * c.toNat) t.toNat = some temps ∧
      (∀ x, readField cfg.layout f (fieldBase t c) x = some (w x)) ∧
      g = buildStatusGroup cfg st t c cells temps w := by
  simp only [← readFields_eq_some]
  unfold readStatusGroup
  cases readHalves f cellBase c.toNat <;>
    cases readHalves f (cellBase + 2 * c.toNat) t.toNat <;>
    cases readFields cfg.layout f (fieldBase t c) <;> simp [eq_comm]

theorem readStatusGroup_readFrom {cfg : Config} {f : List Byte} {st t c : Byte} {g : StatusGroup}
    (h : readStatusGroup cfg f st t c = some g) : ReadFrom cfg f st t c g := by
  obtain ⟨cells, temps, w, hc, ht, hw, rfl⟩ := readStatusGroup_eq_some.mp h
  refine ⟨rfl, rfl, rfl, hc, ht, rfl, rfl, fun x => ⟨w x, hw x, ?_⟩, rfl, rfl, rfl, rfl, rfl, rfl⟩
  cases x <;> simp [StatusGroup.register, StatusField.registerBytes, buildStatusGroup]

/-- A group is read whenever all its reads lie inside the frame (R35). -/
theorem readStatusGroup_isSome {cfg : Config} {f : List Byte} {st t c : Byte}
    (hc : (readHalves f cellBase c.toNat).isSome = true)
    (ht : (readHalves f (cellBase + 2 * c.toNat) t.toNat).isSome = true)
    (hf : ∀ x, (readField cfg.layout f (fieldBase t c) x).isSome = true) :
    (readStatusGroup cfg f st t c).isSome = true := by
  simp only [Option.isSome_iff_exists] at hc ht hf ⊢
  obtain ⟨cells, hcells⟩ := hc
  obtain ⟨temps, htemps⟩ := ht
  choose w hw using hf
  exact ⟨_, readStatusGroup_eq_some.mpr ⟨cells, temps, w, hcells, htemps, hw, rfl⟩⟩

/-- Under a conforming layout every field has exactly its entry. -/
theorem entry_of_mem {L : StatusLayout} (hL : L.Wf) {e : LayoutEntry} (he : e ∈ L.entries) :
    L.entry? e.field = some e := by
  have hnd : (L.entries.map (·.field)).Nodup := by rw [hL.1]; decide
  unfold StatusLayout.entry?
  generalize L.entries = es at he hnd
  induction es with
  | nil => simp at he
  | cons a es ih =>
    simp only [List.map_cons, List.nodup_cons, List.mem_map, not_exists, not_and] at hnd
    rcases List.mem_cons.mp he with rfl | hm
    · simp
    · have hne : a.field ≠ e.field := fun h => hnd.1 e hm h.symm
      simp [hne, ih hm hnd.2]

/-- Under a conforming layout every field has an entry. -/
theorem exists_entry {L : StatusLayout} (hL : L.Wf) (x : StatusField) :
    ∃ e ∈ L.entries, e.field = x := by
  have hx : x ∈ L.entries.map (·.field) := by rw [hL.1]; cases x <;> decide
  simpa using hx

end Sys2Proof.Machine
end

