-- ==== Sys2Proof/Laws/Units.lean ====
section
/-! SUPPORT. What each unit can do, said once: the validator writes scratch only, each decoder routine has
a closed set of results, and FEED's steps touch the buffer only. -/
namespace Sys2Proof.Machine

/-- CRC16 writes `CRC.ACC` and returns it. -/
theorem runCrc16_eq (b : List Byte) (s : State) :
    runCrc16 b s = ({ s with crcAcc := crc16 b }, crc16 b) := rfl

/-- The CRC check writes `CRC.ACC` and validator scratch only. -/
theorem checkCrc_frame (buf : List Byte) (fn : Byte) (flen : Nat) (s : State) :
    ∃ v acc, (checkCrc buf fn flen s).1 = { s with v := v, crcAcc := acc } := by
  unfold checkCrc
  dsimp only
  split <;> exact ⟨_, _, rfl⟩

/-- VALIDATE writes `CRC.ACC` and validator scratch only (R105). -/
theorem runValidate_frame (buf : List Byte) (s : State) :
    ∃ v acc, (runValidate buf s).1 = { s with v := v, crcAcc := acc } := by
  unfold runValidate
  split
  · exact ⟨s.v, s.crcAcc, rfl⟩
  · split
    · unfold checkFrame
      split
      · exact ⟨_, s.crcAcc, rfl⟩
      · split
        · exact ⟨_, s.crcAcc, rfl⟩
        · obtain ⟨v, acc, h⟩ := checkCrc_frame buf _ _ _
          exact ⟨v, acc, by rw [h]; rfl⟩
    · exact ⟨s.v, s.crcAcc, rfl⟩

/-- STATUS either updates, with the group read from the frame under admitted counts, or writes at most
decoder scratch (R121, R134). -/
theorem runStatus_cases (f : List Byte) (s : State) :
    (∃ d g t c, runStatus f s =
        ({ s with d := d, snap := { s.snap with status := g, statusValid := true } },
          .statusUpdated) ∧
        statusLengthHolds f = true ∧ rd8 f 8 = some t ∧ rd8 f 9 = some c ∧
        c.toNat ≤ cellMax ∧ t.toNat ≤ tempMax ∧
        ∃ st, rd8 f 7 = some st ∧ readStatusGroup s.cfg f st t c = some g) ∨
    (∃ d, runStatus f s = ({ s with d := d }, .malformed) ∧ statusLengthHolds f = true) ∨
    (runStatus f s = (s, .statusDropped) ∧ statusLengthHolds f = false) := by
  unfold runStatus
  split
  · next hl =>
    split
    · next st t c h7 h8 h9 =>
      dsimp only
      split
      · exact .inr (.inl ⟨_, rfl, hl⟩)
      · next hb =>
        rw [not_or, not_lt, not_lt] at hb
        unfold statusBody
        dsimp only
        split
        · exact .inr (.inl ⟨_, rfl, hl⟩)
        · split
          · next g hg =>
            exact .inl ⟨_, g, t, c, rfl, hl, h8, h9, hb.1, hb.2, st, h7, hg⟩
          · exact .inr (.inl ⟨_, rfl, hl⟩)
    · exact .inr (.inl ⟨s.d, rfl, hl⟩)
  · next hl => exact .inr (.inr ⟨rfl, by simpa using hl⟩)

/-- DEVINFO either commits both strings or writes nothing (R150). -/
theorem runDevinfo_cases (f : List Byte) (s : State) :
    (∃ g, runDevinfo f s =
      ({ s with snap := { s.snap with devinfo := g, devinfoValid := true } }, .devInfoUpdated) ∧
      38 ≤ f.length ∧ g.hardwareVersion.toList = slice f 6 22 ∧
      g.softwareVersion.toList = slice f 22 38) ∨
    (runDevinfo f s = (s, .malformed) ∧ f.length < 38) := by
  unfold runDevinfo
  split
  · next h => exact .inr ⟨rfl, h⟩
  · next h =>
    have h38 : 38 ≤ f.length := not_lt.mp h
    obtain ⟨hw, hhw⟩ := Option.isSome_iff_exists.mp
      (readBytes16_isSome (f := f) (o := 6) (by omega))
    obtain ⟨sw, hsw⟩ := Option.isSome_iff_exists.mp
      (readBytes16_isSome (f := f) (o := 22) (by omega))
    rw [hhw, hsw]
    exact .inl ⟨⟨hw, sw⟩, rfl, h38, readBytes16_eq_some hhw, readBytes16_eq_some hsw⟩

/-- The decoder writes the snapshot and its own scratch only. -/
theorem runDecode_frame (fn : Byte) (f : List Byte) (s : State) :
    ∃ d snap, (runDecode fn f s).1 = { s with d := d, snap := snap } := by
  unfold runDecode
  split
  · obtain ⟨d, g, t, c, h, -⟩ | ⟨d, h, -⟩ | ⟨h, -⟩ := runStatus_cases f s
    · exact ⟨d, _, by rw [h]⟩
    · exact ⟨d, s.snap, by rw [h]⟩
    · exact ⟨s.d, s.snap, by rw [h]⟩
  · split
    · obtain ⟨g, h, -⟩ | ⟨h, -⟩ := runDevinfo_cases f s
      · exact ⟨s.d, _, by rw [h]⟩
      · exact ⟨s.d, s.snap, by rw [h]⟩
    · exact ⟨s.d, s.snap, rfl⟩

/-- Steps 1 to 3 of FEED change the buffer only. -/
theorem assemble_frame (chunk : List Byte) (s : State) :
    assemble chunk s = { s with fb :=
      (if overflows s.fb || opensWithPreamble chunk then [] else s.fb) ++ chunk } := by
  unfold assemble flushOnPreamble clearOverflow
  cases overflows s.fb <;> cases opensWithPreamble chunk <;> rfl

/-- Step 4 of FEED: no candidate and no change, or an attempt that ends with the buffer empty, rejected
with validator scratch written, or accepted with what the decoder did. -/
theorem judge_cases (s : State) :
    (isCandidate s.fb = false ∧ judge s = (s, .noCandidate)) ∨
    (isCandidate s.fb = true ∧ ∃ v acc,
      (∃ reason, (runValidate s.fb s).2 = .rejected reason ∧
        judge s = ({ s with v := v, crcAcc := acc, fb := [] }, .rejected reason)) ∨
      (∃ fn, (runValidate s.fb s).2 = .ok fn ∧
        let p := runDecode fn s.fb { s with v := v, crcAcc := acc, fb := [] };
        judge s = (p.1, .accepted fn s.fb p.2))) := by
  unfold judge
  cases hc : isCandidate s.fb with
  | false => exact .inl ⟨rfl, rfl⟩
  | true =>
    obtain ⟨v, acc, hv⟩ := runValidate_frame s.fb s
    refine .inr ⟨rfl, v, acc, ?_⟩
    cases hr : (runValidate s.fb s).2 with
    | ok fn =>
      refine .inr ⟨fn, rfl, ?_⟩
      simp only [if_true, hr, hv, State.endAttempt, State.clearBuffer]
    | rejected reason =>
      refine .inl ⟨reason, rfl, ?_⟩
      simp only [if_true, hr, hv, State.endAttempt, State.clearBuffer]

/-- FEED answers a next state exactly when the chunk is within `CHUNK_MAX`. -/
theorem execFeed_eq_next {chunk : List Byte} {s t : State} :
    execFeed chunk s = .next t ↔ chunk.length ≤ s.cfg.chunkMax ∧ runFeed chunk s = t := by
  unfold execFeed
  split <;> simp_all

end Sys2Proof.Machine
end

