-- ==== Sys2Proof/Tests/Slice0.lean ====
section
/-! SUPPORT. Tests: the well-formedness smoke test, decoding of words written out from spec/30_encoding.md,
one-step tests whose expected results are the vectors of spec/95_test_vectors.md, and for every obligation
with hypotheses a witness that meets them all. -/
namespace Sys2Proof.Machine.Tests

-- One declaration at a time: each thread of parallel elaboration would reserve memory of its own.
set_option Elab.async false

/-! ## Frames and states -/

/-- Vector V1: `FRAME(0x13, [])`. -/
def v1 : List Byte := [0x7E, 0xA1, 0x13, 0x00, 0x00, 0x00, 0x9D, 0x5D, 0xAA, 0x55]

/-- Vector V4: `FRAME(0x12, "HW-TEST-00000001" ++ "SW-TEST-00000002")`. -/
def v4 : List Byte :=
    [0x7E, 0xA1, 0x12, 0x00, 0x00, 0x20, 0x48, 0x57, 0x2D, 0x54, 0x45, 0x53, 0x54, 0x2D, 0x30, 0x30,
     0x30, 0x30, 0x30, 0x30, 0x30, 0x31, 0x53, 0x57, 0x2D, 0x54, 0x45, 0x53, 0x54, 0x2D, 0x30, 0x30,
     0x30, 0x30, 0x30, 0x30, 0x30, 0x32, 0x84, 0x48, 0xAA, 0x55]

/-- Vector S1: a status frame with 14 cells and 6 temperatures. -/
def s1 : List Byte :=
    [0x7E, 0xA1, 0x11, 0x00, 0x00, 0x8E, 0x05, 0x01, 0x06, 0x0E, 0x00, 0x00, 0x00, 0x00, 0x00, 0x00,
     0x00, 0x00, 0x00, 0x00, 0x00, 0x00, 0x00, 0x00, 0x00, 0x00, 0x00, 0x00, 0x00, 0x00, 0x00, 0x00,
     0x00, 0x00, 0x11, 0x10, 0x10, 0x10, 0x0F, 0x10, 0x0E, 0x10, 0x0D, 0x10, 0x0C, 0x10, 0x0B, 0x10,
     0x0A, 0x10, 0x09, 0x10, 0x08, 0x10, 0x07, 0x10, 0x06, 0x10, 0x05, 0x10, 0x04, 0x10, 0x1C, 0x00,
     0x1C, 0x00, 0x1B, 0x00, 0x1B, 0x00, 0x1E, 0x00, 0xFB, 0xFF, 0x75, 0x16, 0xF1, 0xFF, 0x64, 0x00,
     0x63, 0x00, 0x01, 0x01, 0x04, 0x00, 0x80, 0xC3, 0xC9, 0x01, 0x4B, 0x6E, 0xC9, 0x01, 0x08, 0x53,
     0x00, 0x00, 0xAA, 0xFF, 0xFF, 0xFF, 0xF0, 0x9E, 0x05, 0x02, 0x01, 0x20, 0x00, 0x00, 0x11, 0x10,
     0x01, 0x00, 0x04, 0x10, 0x0E, 0x00, 0x0D, 0x00, 0x0A, 0x10, 0x00, 0x00, 0x00, 0x00, 0x00, 0x00,
     0x00, 0x00, 0x00, 0x00, 0xDC, 0x05, 0x00, 0x00, 0x08, 0x53, 0x00, 0x00, 0x20, 0x1C, 0x00, 0x00,
     0x6B, 0x2A, 0x12, 0x00, 0xB0, 0xA2, 0xAA, 0x55]

/-- A status frame of `10 + dlen` bytes with the given counts, every other byte after offset 9 zero (the
status routine checks no CRC). -/
def statusFrame (dlen : Nat) (st t c : Byte) : List Byte :=
  [0x7E, 0xA1, 0x11, 0x00, 0x00, BitVec.ofNat 8 dlen, 0x05, st, t, c] ++ List.replicate dlen 0x00

/-- The reset state with bytes in the buffer. -/
def holding (fb : List Byte) : State := { State.reset with fb := fb }

/-- The reset state with operations waiting. -/
def waiting (rs : List Request) : State := { State.reset with pending := rs }

/-- What a reader looks at after a step. -/
def after {α : Type} (o : Host.Outcome State Fault Refusal) (view : State → α) : Option α :=
  match o with
  | .next t => some (view t)
  | .fault _ => none
  | .refused _ => none

/-- The refusal a step ends in. -/
def refusal? (o : Host.Outcome State Fault Refusal) : Option Refusal :=
  match o with
  | .next _ => none
  | .fault _ => none
  | .refused r => some r

/-! ## Well-formedness smoke test -/

theorem smoke_feed_within_chunkMax :
    (Instr.feed (List.replicate 265 0)).wellFormed configRef = true ∧
      (Instr.feed (List.replicate 266 0)).wellFormed configRef = false := by decide +kernel

theorem smoke_validate_nonempty :
    (Instr.validate [0x55]).wellFormed configRef = true ∧
      (Instr.validate []).wellFormed configRef = false := by decide

theorem smoke_bare_operations : Instr.reset.wellFormed configRef = true ∧
    Instr.snapRead.wellFormed configRef = true ∧ (Instr.crc16 []).wellFormed configRef = true ∧
    (Instr.decode 0x00 []).wellFormed configRef = true := by decide

theorem smoke_status_carries_its_code :
    (Instr.status [0x7E, 0xA1, 0x11]).wellFormed configRef = true ∧
      (Instr.status [0x7E, 0xA1, 0x14]).wellFormed configRef = false ∧
      (Instr.status [0x7E, 0xA1]).wellFormed configRef = false := by decide

theorem smoke_devinfo_carries_its_code :
    (Instr.devinfo [0x7E, 0xA1, 0x12]).wellFormed configRef = true ∧
      (Instr.devinfo [0x7E, 0xA1, 0x14]).wellFormed configRef = false ∧
      (Instr.devinfo [0x7E, 0xA1]).wellFormed configRef = false := by decide

theorem smoke_fn13_carries_its_code :
    (Instr.fn13 [0x7E, 0xA1, 0x13]).wellFormed configRef = true ∧
      (Instr.fn13 [0x7E, 0xA1, 0x14]).wellFormed configRef = false ∧
      (Instr.fn13 [0x7E, 0xA1]).wellFormed configRef = false := by decide

theorem smoke_fn14_carries_its_code :
    (Instr.fn14 [0x7E, 0xA1, 0x14]).wellFormed configRef = true ∧
      (Instr.fn14 [0x7E, 0xA1, 0x13]).wellFormed configRef = false ∧
      (Instr.fn14 [0x7E, 0xA1]).wellFormed configRef = false := by decide

theorem smoke_fn15_carries_its_code :
    (Instr.fn15 [0x7E, 0xA1, 0x15]).wellFormed configRef = true ∧
      (Instr.fn15 [0x7E, 0xA1, 0x14]).wellFormed configRef = false ∧
      (Instr.fn15 [0x7E, 0xA1]).wellFormed configRef = false := by decide

theorem smoke_fn16_carries_its_code :
    (Instr.fn16 [0x7E, 0xA1, 0x16]).wellFormed configRef = true ∧
      (Instr.fn16 [0x7E, 0xA1, 0x14]).wellFormed configRef = false ∧
      (Instr.fn16 [0x7E, 0xA1]).wellFormed configRef = false := by decide

theorem smoke_fn42_carries_its_code :
    (Instr.fn42 [0x7E, 0xA1, 0x42]).wellFormed configRef = true ∧
      (Instr.fn42 [0x7E, 0xA1, 0x14]).wellFormed configRef = false ∧
      (Instr.fn42 [0x7E, 0xA1]).wellFormed configRef = false := by decide

theorem smoke_fn43_carries_its_code :
    (Instr.fn43 [0x7E, 0xA1, 0x43]).wellFormed configRef = true ∧
      (Instr.fn43 [0x7E, 0xA1, 0x14]).wellFormed configRef = false ∧
      (Instr.fn43 [0x7E, 0xA1]).wellFormed configRef = false := by decide

theorem smoke_fn61_carries_its_code :
    (Instr.fn61 [0x7E, 0xA1, 0x61]).wellFormed configRef = true ∧
      (Instr.fn61 [0x7E, 0xA1, 0x14]).wellFormed configRef = false ∧
      (Instr.fn61 [0x7E, 0xA1]).wellFormed configRef = false := by decide

theorem smoke_reqStatus_carries_its_code :
    (Instr.reqStatus [0x7E, 0xA1, 0x01]).wellFormed configRef = true ∧
      (Instr.reqStatus [0x7E, 0xA1, 0x14]).wellFormed configRef = false ∧
      (Instr.reqStatus [0x7E, 0xA1]).wellFormed configRef = false := by decide

theorem smoke_reqDevinfo_carries_its_code :
    (Instr.reqDevinfo [0x7E, 0xA1, 0x02]).wellFormed configRef = true ∧
      (Instr.reqDevinfo [0x7E, 0xA1, 0x14]).wellFormed configRef = false ∧
      (Instr.reqDevinfo [0x7E, 0xA1]).wellFormed configRef = false := by decide

theorem smoke_reqWrite_carries_its_code :
    (Instr.reqWrite [0x7E, 0xA1, 0x51]).wellFormed configRef = true ∧
      (Instr.reqWrite [0x7E, 0xA1, 0x14]).wellFormed configRef = false ∧
      (Instr.reqWrite [0x7E, 0xA1]).wellFormed configRef = false := by decide

theorem smoke_fnxx_code_not_listed :
    (Instr.fnxx 0x99 [0x7E, 0xA1, 0x99]).wellFormed configRef = true ∧
      (Instr.fnxx 0x99 [0x7E, 0xA1, 0x98]).wellFormed configRef = false ∧
      (Instr.fnxx 0x11 [0x7E, 0xA1, 0x11]).wellFormed configRef = false := by decide

theorem smoke_layouts : layoutRef.Wf ∧ layoutPacked.Wf ∧
    ¬ StatusLayout.Wf ⟨layoutRef.entries.tail, 74⟩ ∧ ¬ StatusLayout.Wf ⟨layoutRef.entries, 73⟩ := by
  decide

/-! ## Decoding: `FRAME(fn, [])` written out for every row of R53 -/

theorem decode_status : decode ⟨.frame, [0x7E, 0xA1, 0x11, 0x00, 0x00, 0x00, 0x9C, 0xE5, 0xAA, 0x55]⟩ =
    .ok (.status [0x7E, 0xA1, 0x11, 0x00, 0x00, 0x00, 0x9C, 0xE5, 0xAA, 0x55]) := rfl

theorem decode_devinfo : decode ⟨.frame, [0x7E, 0xA1, 0x12, 0x00, 0x00, 0x00, 0x9C, 0xA1, 0xAA, 0x55]⟩ =
    .ok (.devinfo [0x7E, 0xA1, 0x12, 0x00, 0x00, 0x00, 0x9C, 0xA1, 0xAA, 0x55]) := rfl

theorem decode_fn13 : decode ⟨.frame, [0x7E, 0xA1, 0x13, 0x00, 0x00, 0x00, 0x9D, 0x5D, 0xAA, 0x55]⟩ =
    .ok (.fn13 [0x7E, 0xA1, 0x13, 0x00, 0x00, 0x00, 0x9D, 0x5D, 0xAA, 0x55]) := rfl

theorem decode_fn14 : decode ⟨.frame, [0x7E, 0xA1, 0x14, 0x00, 0x00, 0x00, 0x9C, 0x29, 0xAA, 0x55]⟩ =
    .ok (.fn14 [0x7E, 0xA1, 0x14, 0x00, 0x00, 0x00, 0x9C, 0x29, 0xAA, 0x55]) := rfl

theorem decode_fn15 : decode ⟨.frame, [0x7E, 0xA1, 0x15, 0x00, 0x00, 0x00, 0x9D, 0xD5, 0xAA, 0x55]⟩ =
    .ok (.fn15 [0x7E, 0xA1, 0x15, 0x00, 0x00, 0x00, 0x9D, 0xD5, 0xAA, 0x55]) := rfl

theorem decode_fn16 : decode ⟨.frame, [0x7E, 0xA1, 0x16, 0x00, 0x00, 0x00, 0x9D, 0x91, 0xAA, 0x55]⟩ =
    .ok (.fn16 [0x7E, 0xA1, 0x16, 0x00, 0x00, 0x00, 0x9D, 0x91, 0xAA, 0x55]) := rfl

theorem decode_fn42 : decode ⟨.frame, [0x7E, 0xA1, 0x42, 0x00, 0x00, 0x00, 0x8D, 0xA1, 0xAA, 0x55]⟩ =
    .ok (.fn42 [0x7E, 0xA1, 0x42, 0x00, 0x00, 0x00, 0x8D, 0xA1, 0xAA, 0x55]) := rfl

theorem decode_fn43 : decode ⟨.frame, [0x7E, 0xA1, 0x43, 0x00, 0x00, 0x00, 0x8C, 0x5D, 0xAA, 0x55]⟩ =
    .ok (.fn43 [0x7E, 0xA1, 0x43, 0x00, 0x00, 0x00, 0x8C, 0x5D, 0xAA, 0x55]) := rfl

theorem decode_fn61 : decode ⟨.frame, [0x7E, 0xA1, 0x61, 0x00, 0x00, 0x00, 0x86, 0x25, 0xAA, 0x55]⟩ =
    .ok (.fn61 [0x7E, 0xA1, 0x61, 0x00, 0x00, 0x00, 0x86, 0x25, 0xAA, 0x55]) := rfl

theorem decode_reqStatus : decode ⟨.frame, [0x7E, 0xA1, 0x01, 0x00, 0x00, 0x00, 0x98, 0x25, 0xAA, 0x55]⟩ =
    .ok (.reqStatus [0x7E, 0xA1, 0x01, 0x00, 0x00, 0x00, 0x98, 0x25, 0xAA, 0x55]) := rfl

theorem decode_reqDevinfo : decode ⟨.frame, [0x7E, 0xA1, 0x02, 0x00, 0x00, 0x00, 0x98, 0x61, 0xAA, 0x55]⟩ =
    .ok (.reqDevinfo [0x7E, 0xA1, 0x02, 0x00, 0x00, 0x00, 0x98, 0x61, 0xAA, 0x55]) := rfl

theorem decode_reqWrite : decode ⟨.frame, [0x7E, 0xA1, 0x51, 0x00, 0x00, 0x00, 0x89, 0x25, 0xAA, 0x55]⟩ =
    .ok (.reqWrite [0x7E, 0xA1, 0x51, 0x00, 0x00, 0x00, 0x89, 0x25, 0xAA, 0x55]) := rfl

theorem decode_fnxx : decode ⟨.frame, [0x7E, 0xA1, 0x99, 0x00, 0x00, 0x00, 0xB7, 0x45, 0xAA, 0x55]⟩ =
    .ok (.fnxx 0x99 [0x7E, 0xA1, 0x99, 0x00, 0x00, 0x00, 0xB7, 0x45, 0xAA, 0x55]) := rfl

theorem decode_reset : decode ⟨.reset, []⟩ = .ok .reset := rfl

theorem decode_feed : decode ⟨.feed, [0x7E, 0xA1]⟩ = .ok (.feed [0x7E, 0xA1]) := rfl

theorem decode_snapRead : decode ⟨.snapRead, []⟩ = .ok .snapRead := rfl

theorem decode_crc16 : decode ⟨.crc16, [0x01]⟩ = .ok (.crc16 [0x01]) := rfl

theorem decode_validate : decode ⟨.validate, [0x55]⟩ = .ok (.validate [0x55]) := rfl

theorem decode_decode : decode ⟨.decode, [0x11, 0x7E]⟩ = .ok (.decode 0x11 [0x7E]) := rfl

theorem decode_refuses_short_frame : decode ⟨.frame, [0x7E, 0xA1]⟩ = .error .noFunctionCode := rfl

theorem decode_refuses_operand : decode ⟨.reset, [0x00]⟩ = .error .operandWhereNoneIsTaken := rfl

theorem decode_refuses_empty_decode : decode ⟨.decode, []⟩ = .error .noFunctionCode := rfl

/-- The opcode-table word of FN13 is `FRAME(0x13, [])`, vector V1. -/
theorem tableWord_fn13 : decodeTableWord 8 0x13 = some (.fn13 v1) := by decide +kernel

/-- A FRAME built by the model is the vector's bytes. -/
theorem frameOf_is_v1 : frameOf 0x13 [] = v1 := by decide +kernel

/-- The request of GK10, whose CRC is vector K7. -/
theorem requestFrame_is_gk10 : requestFrame 0x01 0x0000 0xBE =
    [0x7E, 0xA1, 0x01, 0x00, 0x00, 0xBE, 0x18, 0x55, 0xAA, 0x55] := by decide +kernel

/-! ## CRC16: vectors K1, K3, K6, K12, K15 -/

theorem crc_k1_k3_k12 : crc16 [] = 0xFFFF ∧ crc16 [0x01] = 0x807E ∧ crc16 [0xFF, 0xFF] = 0x0000 := by
  decide +kernel

theorem crc_k6 : crc16 [0x31, 0x32, 0x33, 0x34, 0x35, 0x36, 0x37, 0x38, 0x39] = 0x4B37 := by
  decide +kernel

theorem crc_k15 : crc16 (List.replicate 260 0x00) = 0x0B64 := by decide +kernel

theorem test_crc16_k9 : after (exec (.crc16 [0xA1, 0x13, 0x00, 0x00, 0x00]) State.reset)
    (fun t => (t.returned, t.crcAcc)) = some (.crc 0x5D9D, 0x5D9D) := by decide +kernel

/-! ## VALIDATE: vectors V1 to V14 -/

/-- The verdict of VALIDATE from reset. -/
def verdict (buf : List Byte) : Option Returned :=
  after (exec (.validate buf) State.reset) (·.returned)

theorem test_validate_v1 : verdict v1 = some (.validated (.ok 0x13)) := by decide +kernel

theorem test_validate_v2_v2b : verdict (v1.set 6 0x9C) = some (.validated (.rejected .crcMismatch)) ∧
    verdict (v1.set 7 0xDD) = some (.validated (.rejected .crcMismatch)) := by decide +kernel

theorem test_validate_v3_v10 : verdict (v1.set 5 0x01) =
      some (.validated (.rejected .lengthMismatch)) ∧
    verdict [0x55] = some (.validated (.rejected .malformed)) := by decide +kernel

theorem test_validate_v5_v6_v7 : verdict (v4 ++ [0x00, 0x55]) = some (.validated (.ok 0x12)) ∧
    verdict (v4.set 5 0x21) = some (.validated (.rejected .malformed)) ∧
    verdict (v4.set 5 0x1F) = some (.validated (.rejected .crcMismatch)) := by decide +kernel

/-- V5 under `DEVINFO_CRC_AT = actual`. -/
theorem test_validate_v5_actual :
    after (exec (.validate (v4 ++ [0x00, 0x55]))
      { State.reset with cfg := { configRef with devinfoCrcAt := .actual } }) (·.returned) =
      some (.validated (.rejected .crcMismatch)) := by decide +kernel

theorem test_validate_v8_v9 : verdict (v1.set 0 0x00) = some (.validated (.ok 0x13)) ∧
    verdict (v1.set 8 0x00) = some (.validated (.ok 0x13)) := by decide +kernel

/-! ## FEED: vectors A3, A5, A8, V10, and program P3's first FEED -/

/-- What a FEED leaves: flags, outcome, buffer length. -/
def fed (chunk : List Byte) (s : State) : Option (Option FeedResult × Nat) :=
  after (exec (.feed chunk) s) fun t => (t.event, t.fb.length)

theorem test_feed_v1 : fed v1 State.reset =
    some (some ⟨false, true, .accepted 0x13 v1 .unhandled⟩, 0) := by decide +kernel

theorem test_feed_a5_strict : fed [0x02] (holding (List.replicate 153 0x01)) =
      some (some ⟨true, false, .noCandidate⟩, 1) ∧
    fed [0x01] (holding (List.replicate 152 0x01)) =
      some (some ⟨false, false, .noCandidate⟩, 153) := by decide +kernel

theorem test_feed_a4_split_preamble : fed [0x7E] (holding [0x01, 0x02, 0x03]) =
      some (some ⟨false, false, .noCandidate⟩, 4) ∧
    fed v1.tail (holding [0x01, 0x02, 0x03, 0x7E]) =
      some (some ⟨false, false, .rejected .lengthMismatch⟩, 0) := by decide +kernel

theorem test_feed_p3_false_trigger :
    fed [0x7E, 0xA1, 0x42, 0x00, 0x00, 0x04, 0x01, 0x55] State.reset =
      some (some ⟨false, true, .rejected .lengthMismatch⟩, 0) := by decide +kernel

theorem test_feed_longer_than_chunkMax :
    refusal? (exec (.feed (List.replicate 266 0x00)) State.reset) =
      some .chunkLongerThanChunkMax := by decide +kernel

/-! ## STATUS: vectors S1, S4's counts, S6, S7, S10 -/

/-- Vector S1 fed whole: the sequences and the signed fields. -/
theorem test_status_s1 : after (exec (.feed s1) State.reset) (fun t =>
      (t.snap.statusValid, t.snap.status.cellVoltage.map BitVec.toNat,
        t.snap.status.temperature.map BitVec.toInt, t.snap.status.current.toInt,
        t.snap.status.power.toInt)) =
    some (true, [4113, 4112, 4111, 4110, 4109, 4108, 4107, 4106, 4105, 4104, 4103, 4102, 4101, 4100],
      [28, 28, 27, 27, 30, -5], -15, -86) := by decide +kernel

/-- Vector S1: unsigned fields from both ends of the layout, and the duration texts. -/
theorem test_status_s1_fields : after (exec (.status s1) State.reset) (fun t =>
      (t.snap.status.totalVoltage.toNat, t.snap.status.capacityRemaining.toNat,
        t.snap.status.averageCellVoltage.toNat, t.snap.status.accumulatedChargeTime.toNat,
        t.snap.status.totalRuntimeText, t.snap.status.accumulatedChargeTimeText)) =
    some (5749, 29978187, 4106, 1190507, "1y 27d 15h", "13d 18h") := by decide +kernel

/-- `C = 33`, `T = 7`, and a frame one byte too short for its layout (S6, S7, R124). -/
theorem test_status_malformed :
    [statusFrame 0xB4 1 6 33, statusFrame 0x90 1 7 14, statusFrame 97 1 0 0].map
        (fun f => after (exec (.status f) State.reset) (·.returned)) =
      List.replicate 3 (some (.decoded 0x11 .malformed)) := by decide +kernel

/-- A code outside its table renders Unknown and is kept (S4). -/
theorem test_status_unknown_text :
    after (exec (.status ((statusFrame 102 9 0 0).set 42 16)) State.reset) (fun t =>
      (t.snap.status.chargeMosfetStatus, t.snap.status.chargeMosfetText)) =
      some (16, "Unknown") := by decide +kernel

/-! ## DEVINFO, UNHANDLED, SNAP.READ, RESET, and a step -/

/-- Vector I1. -/
theorem test_devinfo_i1 : after (exec (.devinfo v4) State.reset) (fun t =>
      (t.snap.devinfoValid, t.snap.devinfo.hardwareVersion.toList, t.snap.statusValid)) =
    some (true, [0x48, 0x57, 0x2D, 0x54, 0x45, 0x53, 0x54, 0x2D, 0x30, 0x30, 0x30, 0x30, 0x30, 0x30,
      0x30, 0x31], false) := by decide +kernel

theorem test_devinfo_short : after (exec (.devinfo (v4.take 37)) State.reset)
    (fun t => (t.returned, t.snap.devinfoValid)) = some (.decoded 0x12 .malformed, false) := by
  decide +kernel

theorem test_unhandled_codes :
    [Instr.fn13 v1, .fn14 v1, .fn15 v1, .fn16 v1, .fn42 v1, .fn43 v1, .fn61 v1, .reqStatus v1,
        .reqDevinfo v1, .reqWrite v1, .fnxx 0x99 v1].map
        (fun i => after (exec i State.reset) (·.returned)) =
      [0x13, 0x14, 0x15, 0x16, 0x42, 0x43, 0x61, 0x01, 0x02, 0x51, 0x99].map
        (fun c => some (.decoded c .unhandled)) := by decide +kernel

theorem test_decode_dispatch : after (exec (.decode 0x12 v4) State.reset) (·.returned) =
      some (.decoded 0x12 .devInfoUpdated) ∧
    after (exec (.decode 0x13 v4) State.reset) (·.returned) = some (.decoded 0x13 .unhandled) := by
  decide +kernel

/-- SNAP.READ right after reset returns two 0 bits and no group (R40). -/
theorem test_snapRead_at_reset : after (exec .snapRead State.reset) (·.returned) =
    some (.snap ⟨false, false, none, none⟩) := by decide +kernel

/-- A read of a group whose valid bit is 0 is a fault (R18). -/
theorem test_readStatus_invalid : State.reset.readStatus = .error .statusGroupNotValid ∧
    State.reset.readDevinfo = .error .devinfoGroupNotValid := ⟨rfl, rfl⟩

/-- RESET empties the buffer and clears the valid bits (R180). -/
theorem test_reset : after (exec .reset (holding v1)) (fun t =>
    (t.fb, t.snap.statusValid, t.snap.devinfoValid, t.event)) = some ([], false, false, none) := rfl

/-- A step accepts the first operation waiting: `FEED 7E` (vector A3). -/
theorem test_step_feed : after (step (waiting [feedRequest [0x7E], ⟨.snapRead, []⟩])) (fun t =>
    (t.event, t.fb, t.pending.length)) =
      some (some ⟨false, false, .noCandidate⟩, [0x7E], 1) := by decide +kernel

/-- The opcode-table word placed where `step` fetches runs as the first operation after reset. -/
theorem test_step_fetch_word : after (step (State.reset.withFetchWord 8 0x42)) (·.returned) =
    some (.decoded 0x42 .unhandled) := by decide +kernel

/-- R16 and R130 on vector S1's group: 57.49, -1.5, the runtime at scale 1, the two extra temperatures. -/
theorem test_physical_s1 : after (exec (.status s1) State.reset) (fun t =>
      (t.snap.status.physical .totalVoltage, t.snap.status.physical .current,
        t.snap.status.physical .accumulatedChargeTime, t.snap.status.mosfetDegrees,
        t.snap.status.balancerDegrees)) =
    some (some (5749 / 100), some (-15 / 10), some 1190507, some 30, some (-5)) := by decide +kernel

/-- Table 2.6 of spec/95_test_vectors.md. -/
theorem test_durations : [0, 3599, 3600, 86399, 86400, 31535999, 31536000, 31622400, 4294967295].map
      referenceDuration =
    ["", "", "1h", "23h", "1d 0h", "364d 23h", "1y 0d 0h", "1y 1d 0h", "136y 70d 6h"] := by
  decide +kernel

/-- SPLIT and BYTEWISE cut as R64 says. -/
theorem test_split : splitChunks 4 v1 = [[0x7E, 0xA1, 0x13, 0x00], [0x00, 0x00, 0x9D, 0x5D],
    [0xAA, 0x55]] ∧ (bytewiseScript [0x01, 0x02]) = [feedRequest [0x01], feedRequest [0x02]] := by
  decide +kernel

/-! ## Witnesses: states and operands that meet the hypotheses of each obligation -/

/-- What a FEED from a state reports, without the flags. -/
def outcome (chunk : List Byte) (s : State) : Option FeedOutcome :=
  (after (exec (.feed chunk) s) State.feedOutcome?).join

/-- A function-0x13 frame of 153 bytes, and one of 154. -/
def long153 : List Byte := frameOf 0x13 (List.replicate 143 0x00)
def long154 : List Byte := frameOf 0x13 (List.replicate 144 0x00)

/-- A frame whose payload holds a preamble, and one whose payload holds the byte 0x55 at offset 7 (P3). -/
def innerPreamble : List Byte := frameOf 0x13 [0x7E, 0xA1]
def innerFooter : List Byte := frameOf 0x42 [0x01, 0x55, 0x02, 0x03]

theorem witness_DecodeInvertsEncode : (Instr.status v1).wellFormed configRef = false ∧
    (Instr.fn13 v1).wellFormed configRef = true ∧ (Instr.feed v1).wellFormed configRef = true ∧
    (Instr.fnxx 0x99 [0, 0, 0x99]).wellFormed configRef = true := by decide +kernel

theorem witness_FunctionCodeSelectsOperation : v1[2]? = some 0x13 ∧
    ([0, 0, 0x99] : List Byte)[2]? = some 0x99 := by decide

theorem witness_StepRunsDecodedOperation : (waiting []).pending = [] ∧
    (waiting [⟨.frame, v1⟩]).pending = ⟨.frame, v1⟩ :: [] ∧ decode ⟨.frame, v1⟩ = .ok (.fn13 v1) ∧
    (waiting [⟨.frame, []⟩]).pending = ⟨.frame, []⟩ :: [] ∧
    decode ⟨.frame, []⟩ = .error .noFunctionCode := ⟨rfl, rfl, rfl, rfl, rfl⟩

/-- A state with bytes in the buffer, a valid status group of one cell and two temperatures, and a FEED
waiting. -/
def running : State :=
  { holding [0x7E] with
    snap :=
      { Snapshot.atReset with
        statusValid := true
        status := buildStatusGroup configRef 0x01 0x02 0x01 [0x1011] [0x001C, 0xFFFB] fun _ => 0 }
    pending := [feedRequest [0xA1]] }

theorem witness_EveryStepKeepsInvariant :
    running.Inv ∧ running.snap.statusValid = true ∧ after (step running) (·.fb) = some [0x7E, 0xA1] :=
  ⟨{ cfg := by decide +kernel
     capacity := by decide +kernel
     noCandidate := by decide +kernel
     status := fun _ =>
      { cells := by decide +kernel
        cellsBound := by decide +kernel
        temps := by decide +kernel
        tempsBound := by decide +kernel
        mosfet := by decide +kernel
        balancer := by decide +kernel
        chargeText := rfl
        dischargeText := rfl
        balancerText := rfl
        runtimeText := rfl
        dischargeTimeText := rfl
        chargeTimeText := rfl } },
   by decide +kernel, by decide +kernel⟩

theorem witness_NoOperationWritesConfiguration :
    ∃ t, exec (.feed v1) (waiting [⟨.snapRead, []⟩]) = .next t := ⟨_, rfl⟩

theorem witness_WellFormedOperationsComplete :
    (Instr.feed (List.replicate 265 0)).wellFormed State.reset.cfg = true ∧
      (Instr.status (statusFrame 98 1 0 0)).wellFormed State.reset.cfg = true := by decide +kernel

theorem witness_OnlyFeedEmitsAnEvent :
    (∃ t, exec (.feed v1) State.reset = .next t) ∧ ∃ t, exec (.fn13 v1) State.reset = .next t :=
  ⟨⟨_, rfl⟩, _, rfl⟩

theorem witness_OnlyUpdatesChangeTheSnapshot :
    (∃ t, exec (.status s1) State.reset = .next t ∧ t.decodeOutcome? = some .statusUpdated) ∧
    (∃ t, exec (.devinfo v4) State.reset = .next t ∧ t.decodeOutcome? = some .devInfoUpdated) ∧
    ∃ t, exec (.feed v1) State.reset = .next t ∧ t.decodeOutcome? = some .unhandled :=
  ⟨⟨_, rfl, by decide +kernel⟩, ⟨_, rfl, by decide +kernel⟩, _, rfl, by decide +kernel⟩

theorem witness_OnlyResetClearsValidBits : Instr.devinfo v4 ≠ .reset ∧
    running.snap.statusValid = true ∧
    after (exec (.devinfo v4) running) (·.snap.statusValid) = some true := by decide +kernel

theorem witness_PortStepsChangeStateOnlyByFeedOrReset :
    (waiting [feedRequest [0x7E], ⟨.snapRead, []⟩]).portOnly = true ∧
      (waiting [⟨.reset, []⟩]).portOnly = true ∧
      ∃ t, step (waiting [feedRequest [0x7E], ⟨.snapRead, []⟩]) = .next t ∧ t.fb ≠ [] :=
  ⟨by decide, by decide, _, rfl, by decide +kernel⟩

theorem witness_FeedWithoutCandidateKeepsTheBytes :
    (assembled (List.replicate 152 0x01) [0x01]).getLast? ≠ some 0x55 ∧
      (assembled (List.replicate 153 0x55) []).getLast? ≠ some 0x55 ∧
      ([] : List Byte).length ≤ (holding (List.replicate 153 0x55)).cfg.chunkMax := by decide +kernel

/-- One candidate that is rejected, one that is accepted and decoded. -/
theorem witness_FeedJudgesACandidate :
    (∃ v, (assembled [0x00] [0x55]).getLast? = some 0x55 ∧
      exec (.validate (assembled [0x00] [0x55])) (holding (assembled [0x00] [0x55])) = .next v ∧
      v.returned = .validated (.rejected .malformed)) ∧
    ∃ v w, (assembled [0x00] v4).getLast? = some 0x55 ∧
      exec (.validate (assembled [0x00] v4)) (holding (assembled [0x00] v4)) = .next v ∧
      v.returned = .validated (.ok 0x12) ∧
      exec (.decode 0x12 (assembled [0x00] v4)) { v with fb := [] } = .next w ∧
      w.returned = .decoded 0x12 .devInfoUpdated :=
  ⟨⟨_, by decide, rfl, by decide +kernel⟩,
    _, _, by decide, rfl, by decide +kernel, rfl, by decide +kernel⟩

theorem witness_FrameDeliveredWholeIsAccepted :
    (List.replicate 255 (0x00 : Byte)).length ≤ 255 ∧
      (frameOf 0x13 (List.replicate 255 0x00)).length ≤ State.reset.cfg.chunkMax := by decide +kernel

theorem witness_OverflowClearsBeforeTheChunk :
    ([0x02] : List Byte).length ≤ State.reset.cfg.chunkMax ∧
      152 < (holding (List.replicate 153 0x01)).fb.length ∧
      ([0x02] : List Byte).getLast? ≠ some 0x55 ∧
      (holding (List.replicate 152 0x01)).fb.length ≤ 152 ∧
      ([0x02] : List Byte).take 2 ≠ [0x7E, 0xA1] ∧
      (List.replicate 152 0x01 ++ [0x02] : List Byte).getLast? ≠ some 0x55 := by decide +kernel

theorem witness_PreambleHeadDiscardsStaleBytes :
    ([0x7E, 0xA1] : List Byte).length ≤ (holding [0x01]).cfg.chunkMax ∧
      ([0x7E, 0xA1] : List Byte).take 2 = [0x7E, 0xA1] := by decide

theorem witness_FeedBeyondChunkMaxIsRefused :
    State.reset.cfg.chunkMax < (List.replicate 266 (0x00 : Byte)).length := by decide +kernel

/-- No candidate, a rejection, an acceptance. -/
theorem witness_BufferLengthAfterFeed : outcome [0x7E] State.reset = some .noCandidate ∧
    outcome [0x55] State.reset = some (.rejected .malformed) ∧
    outcome v1 State.reset = some (.accepted 0x13 v1 .unhandled) := by decide +kernel

theorem witness_BufferNeverEndsInFooter : (∃ t, exec .reset (holding v1) = .next t) ∧
    (∃ t, exec (.feed v1) State.reset = .next t) ∧
    (holding []).fb = [] ∧ (holding [0x7E]).fb.getLast? ≠ some 0x55 :=
  ⟨⟨_, rfl⟩, ⟨_, rfl⟩, rfl, by decide⟩

theorem witness_FeedNeverDropsAStatusFrame :
    outcome s1 State.reset = some (.accepted 0x11 s1 .statusUpdated) ∧
      outcome (v4 ++ [0x00, 0x55]) State.reset =
        some (.accepted 0x12 (v4 ++ [0x00, 0x55]) .devInfoUpdated) := by decide +kernel

theorem witness_TwoFramesInOneChunkAreRejected : (0x13 : Byte) ≠ 0x12 ∧ v1.getLast? = some 0x55 ∧
    (frameOf 0x13 [] ++ v1).length ≤ State.reset.cfg.chunkMax := by decide +kernel

/-- P3's frame cut after offset 7, and a frame whose byte at offset 3 is 0x55 cut after four bytes. -/
theorem witness_TrailingFooterByteTriggersEarly :
    (innerFooter[2]? = some 0x42 ∧ declaredLength innerFooter = some innerFooter.length ∧
      8 < innerFooter.length ∧ (innerFooter.take 8).getLast? = some 0x55) ∧
    (frameWith 0x42 0x0055 0 [])[2]? = some 0x42 ∧
      declaredLength (frameWith 0x42 0x0055 0 []) = some (frameWith 0x42 0x0055 0 []).length ∧
      ((frameWith 0x42 0x0055 0 []).take 4).getLast? = some 0x55 := by decide +kernel

theorem witness_RequestFedBackIsRejected :
    (0x01 : Byte) ≠ 0x12 ∧ (0xBE : Byte) ≠ 0 ∧ 10 ≤ State.reset.cfg.chunkMax := by decide

/-- V1 cut in three from an empty buffer, and with stale bytes but the preamble at its head. -/
theorem witness_SafeCuttingReproducesTheFrame :
    outcome v1 State.reset = some (.accepted 0x13 v1 .unhandled) ∧
    CuttingOf v1 [] (splitChunks 4 v1) ∧ CuttingOf v1 [0x09] (splitChunks 4 v1) ∧
    CutsSafely (splitChunks 4 v1) :=
  ⟨by decide +kernel, ⟨by decide +kernel, by decide +kernel, by decide +kernel, .inl rfl⟩,
    ⟨by decide +kernel, by decide +kernel, by decide +kernel, .inr (by decide +kernel)⟩,
    by decide +kernel, by decide +kernel, by decide +kernel⟩

/-- Condition (iv) at its boundary: 153 bytes cut 152 + 1. -/
theorem witness_SafeCutting_prefix_of_152 :
    outcome long153 State.reset = some (.accepted 0x13 long153 .unhandled) ∧
    CuttingOf long153 [] [long153.take 152, long153.drop 152] ∧
    CutsSafely [long153.take 152, long153.drop 152] :=
  ⟨by decide +kernel, ⟨by decide +kernel, by decide +kernel, by decide +kernel, .inl rfl⟩,
    by decide +kernel, by decide +kernel, by decide +kernel⟩

/-- (ii) broken: P3. -/
theorem witness_UnsafeCutting_inner_footer :
    outcome innerFooter State.reset = some (.accepted 0x42 innerFooter .unhandled) ∧
    CuttingOf innerFooter [] [innerFooter.take 8, innerFooter.drop 8] ∧
    ¬ CutsSafely [innerFooter.take 8, innerFooter.drop 8] :=
  ⟨by decide +kernel, ⟨by decide +kernel, by decide +kernel, by decide +kernel, .inl rfl⟩,
    fun h => absurd h.noInnerFooter (by decide +kernel)⟩

/-- (iii) broken: a later chunk opens with the preamble. -/
theorem witness_UnsafeCutting_inner_preamble :
    outcome innerPreamble State.reset = some (.accepted 0x13 innerPreamble .unhandled) ∧
    CuttingOf innerPreamble [] [innerPreamble.take 6, innerPreamble.drop 6] ∧
    ¬ CutsSafely [innerPreamble.take 6, innerPreamble.drop 6] :=
  ⟨by decide +kernel, ⟨by decide +kernel, by decide +kernel, by decide +kernel, .inl rfl⟩,
    fun h => absurd h.noInnerPreamble (by decide +kernel)⟩

/-- (iv) broken: 154 bytes cut 153 + 1. -/
theorem witness_UnsafeCutting_prefix_of_153 :
    outcome long154 State.reset = some (.accepted 0x13 long154 .unhandled) ∧
    CuttingOf long154 [] [long154.take 153, long154.drop 153] ∧
    ¬ CutsSafely [long154.take 153, long154.drop 153] :=
  ⟨by decide +kernel, ⟨by decide +kernel, by decide +kernel, by decide +kernel, .inl rfl⟩,
    fun h => absurd (h.prefixesFit 1 (by decide)) (by decide +kernel)⟩

theorem witness_LongFrameIsLostBytewise : State.reset.fb = [] ∧ 1 ≤ State.reset.cfg.chunkMax ∧
    153 < long154.length := by decide +kernel

theorem witness_Crc16DetectsShortBursts : (0x0001 : Half) ≠ 0 ∧ (0x8001 : Half) ≠ 0 ∧ 8 ≤ 8 := by
  decide

theorem witness_ValidateWritesItsScratch : 6 ≤ v1.length ∧
    verdict v1 = some (.validated (.ok 0x13)) ∧
    verdict (v1.set 6 0x9C) = some (.validated (.rejected .crcMismatch)) := by decide +kernel

theorem witness_EveryFrameValidates : (List.replicate 255 (0x00 : Byte)).length ≤ 255 := by
  decide +kernel

theorem witness_ValidateIgnoresUncheckedBytes : State.reset.cfg.devinfoCrcAt = .declared ∧
    v1.length = ((v1.set 0 0x00).set 8 0x00).length ∧
    (∀ k < v1.length, 1 ≤ k → k < 6 + (v1.getD 5 0).toNat + 4 - 2 →
      v1[k]? = ((v1.set 0 0x00).set 8 0x00)[k]?) ∧
    verdict v1 ≠ none := by decide +kernel

/-- Both bytes of the stored CRC, at either place. -/
theorem witness_StoredCrcCorruptionIsRejected : verdict v1 = some (.validated (.ok 0x13)) ∧
    (0x9C : Byte) ≠ v1.getD 6 0 ∧ (0xDD : Byte) ≠ v1.getD 7 0 ∧
    after (exec (.validate v4) { State.reset with cfg := { configRef with devinfoCrcAt := .actual } })
      (·.returned) = some (.validated (.ok 0x12)) ∧
    (0x00 : Byte) ≠ v4.getD (v4.length - 4) 0 := by decide +kernel

theorem witness_DevinfoExtraBytesAreAccepted : State.reset.cfg.devinfoCrcAt = .declared ∧
    verdict v4 = some (.validated (.ok 0x12)) := by decide +kernel

theorem witness_DecodeDispatchesOnFunctionCode : (0x10 : Byte) ≠ 0x11 ∧ (0x10 : Byte) ≠ 0x12 := by
  decide

theorem witness_DecodingTwiceIsDecodingOnce : (∃ t, exec (.decode 0x11 s1) State.reset = .next t) ∧
    ∃ t, exec (.decode 0x11 (statusFrame 97 1 0 0)) State.reset = .next t := ⟨⟨_, rfl⟩, _, rfl⟩

/-- Both ends of the counts: no cell and no temperature in the shortest frame, 32 cells and 6
temperatures; `T = 1` and `T = 2` for the extra temperatures. -/
theorem witness_StatusAdmitted : State.reset.cfg.Wf ∧
    StatusAdmitted State.reset.cfg (statusFrame 98 1 0 0) 1 0 0 ∧
    StatusAdmitted State.reset.cfg (statusFrame 174 1 6 32) 1 6 32 ∧
    StatusAdmitted State.reset.cfg (statusFrame 100 1 1 0) 1 1 0 ∧
    StatusAdmitted State.reset.cfg (statusFrame 102 1 2 0) 1 2 0 := by decide +kernel

theorem witness_ReferenceLayoutPlacesTheFields : State.reset.cfg.Wf ∧
    State.reset.cfg.layout = layoutRef ∧ StatusAdmitted State.reset.cfg s1 1 6 14 := by
  decide +kernel

theorem witness_StatusDropsAWrongLength : declaredLength (s1 ++ [0x00]) ≠ some (s1 ++ [0x00]).length ∧
    declaredLength [] ≠ some ([] : List Byte).length := by decide +kernel

/-- Each of the three grounds alone, at its boundary. -/
theorem witness_StatusRefusesCountsAndShortFrames :
    (declaredLength (statusFrame 176 1 6 33) = some (statusFrame 176 1 6 33).length ∧
      (statusFrame 176 1 6 33)[8]? = some 6 ∧ (statusFrame 176 1 6 33)[9]? = some 33) ∧
    (declaredLength (statusFrame 176 1 7 32) = some (statusFrame 176 1 7 32).length ∧
      (statusFrame 176 1 7 32)[8]? = some 7 ∧ (statusFrame 176 1 7 32)[9]? = some 32) ∧
    (declaredLength (statusFrame 97 1 0 0) = some (statusFrame 97 1 0 0).length ∧
      (statusFrame 97 1 0 0).length < 34 + (2 * 0 + 2 * 0) + State.reset.cfg.layout.size) := by
  decide +kernel

/-- Byte 10 and the last byte differ. -/
theorem witness_StatusIgnoresUninterpretedBytes :
    let f' := (s1.set 10 0xFF).set 151 0x00
    s1.length = f'.length ∧ (∀ k ∈ [5, 7, 8, 9], s1[k]? = f'[k]?) ∧
    let base := 34 + (2 * (s1.getD 9 0).toNat + 2 * (s1.getD 8 0).toNat)
    (∀ k < base, 34 ≤ k → s1[k]? = f'[k]?) ∧
    ∀ e ∈ State.reset.cfg.layout.entries, ∀ k < e.width.bytes,
      s1[base + e.disp + k]? = f'[base + e.disp + k]? := by decide +kernel

theorem witness_DevinfoCopiesTheVersions :
    38 ≤ (v4.take 38).length ∧ ¬ 38 ≤ (v4.take 37).length := by decide

theorem witness_UnhandledCodesChangeNothing : (0x10 : Byte) ∉ listedCodes ∧ (0x10 : Byte) ≠ 0x11 ∧
    (0x13 : Byte) ≠ 0x12 ∧
    (List.replicate 255 (0x00 : Byte)).length ≤ 255 ∧
    (frameOf 0x13 (List.replicate 255 0x00)).length ≤ State.reset.cfg.chunkMax := by decide +kernel

theorem witness_ReadsAreLittleEndian : 8 + 2 ≤ v1.length ∧ ¬ 9 + 2 ≤ v1.length ∧ 6 + 4 ≤ v1.length ∧
    ¬ 7 + 4 ≤ v1.length := by decide

theorem witness_LookupRendersUnknown : 11 ≤ (11 : Byte).toNat ∧ (10 : Byte).toNat < 11 := by decide

theorem witness_BatteryStatusOneIsIdle : State.reset.cfg.Wf ∧
    layoutPacked.Wf ∧ { configRef with batteryStatusNames := [none, some "Idle"] }.batteryStatusNames.length
      ≤ (2 : Byte).toNat := by decide +kernel

end Sys2Proof.Machine.Tests
end

/-! # The state: what every operation leaves in it -/

namespace Sys2Proof.Machine

/-! ## Steps 1 to 3 of FEED in the words of the claims -/

theorem opensWithPreamble_eq_decide (chunk : List Byte) :
    opensWithPreamble chunk = decide (chunk.take 2 = [0x7E#8, 0xA1#8]) := by
  match chunk with
  | [] => rfl
  | [_] => simp [opensWithPreamble]
  | b0 :: b1 :: rest => simp [opensWithPreamble, pre0, pre1, beq_eq_decide]

theorem recordOf_eq (fb chunk : List Byte) (o : FeedOutcome) :
    recordOf fb chunk o = ⟨overflows fb, opensWithPreamble chunk, o⟩ := by
  rw [opensWithPreamble_eq_decide]
  rfl

theorem assemble_eq (chunk : List Byte) (s : State) :
    assemble chunk s = { s with fb := assembled s.fb chunk } := by
  rw [assemble_frame, opensWithPreamble_eq_decide, overflows, ← Bool.decide_or]
  simp only [decide_eq_true_eq]
  rfl

/-- Whatever was held, at most 152 old bytes stand before the chunk (R91, R26). -/
theorem assembled_length_le (fb chunk : List Byte) :
    (assembled fb chunk).length ≤ bufMax + chunk.length := by
  unfold assembled bufMax
  split <;> simp
  omega

theorem isCandidate_eq_false_iff {fb : List Byte} :
    isCandidate fb = false ↔ fb.getLast? ≠ some foot1 := by
  simp [isCandidate]

/-! ## The snapshot after a decode -/

/-- Snapshot `b` is what a decode with outcome `o` makes of snapshot `a`: a consistent status group
committed, a device-info group committed, or nothing written (R134, R150, R152). -/
inductive Snapshot.Decoded (cfg : Config) (a : Snapshot) : DecodeOutcome → Snapshot → Prop
  | status (g : StatusGroup) (hg : g.Consistent cfg) :
      Decoded cfg a .statusUpdated { a with status := g, statusValid := true }
  | devinfo (g : DevInfoGroup) :
      Decoded cfg a .devInfoUpdated { a with devinfo := g, devinfoValid := true }
  | kept (o : DecodeOutcome) (ho : o.updates = false) : Decoded cfg a o a

/-- A group read under admitted counts has the properties of R19, R127, R131 and R133. -/
theorem readStatusGroup_consistent {cfg : Config} {f : List Byte} {st t c : Byte} {g : StatusGroup}
    (h : readStatusGroup cfg f st t c = some g) (hc : c.toNat ≤ cellMax) (ht : t.toNat ≤ tempMax) :
    g.Consistent cfg := by
  have r := readStatusGroup_readFrom h
  have hcells : g.cellVoltage.length = g.cellCount.toNat := by
    rw [r.cellCount, readHalves_length r.cells]
  have htemps : g.temperature.length = g.tempCount.toNat := by
    rw [r.tempCount, readHalves_length r.temps]
  exact
    { cells := hcells
      cellsBound := by rw [r.cellCount]; exact hc
      temps := htemps
      tempsBound := by rw [r.tempCount]; exact ht
      mosfet := by rw [r.mosfet, extraTemperature, htemps]
      balancer := by rw [r.balancer, extraTemperature, htemps]
      chargeText := r.chargeText
      dischargeText := r.dischargeText
      balancerText := r.balancerText
      runtimeText := r.runtimeText
      dischargeTimeText := r.dischargeTimeText
      chargeTimeText := r.chargeTimeText }

/-- `p` is what a decoder routine may answer from state `s`: decoder scratch written, and the snapshot as
the outcome says. -/
def DecodesFrom (s : State) (p : State × DecodeOutcome) : Prop :=
  ∃ d snap, p.1 = { s with d := d, snap := snap } ∧ s.snap.Decoded s.cfg p.2 snap

theorem runStatus_decodesFrom (f : List Byte) (s : State) : DecodesFrom s (runStatus f s) := by
  obtain ⟨d, g, t, c, h, -, -, -, hc, ht, st, -, hg⟩ | ⟨d, h, -⟩ | ⟨h, -⟩ := runStatus_cases f s
  · exact h ▸ ⟨d, _, rfl, .status g (readStatusGroup_consistent hg hc ht)⟩
  · exact h ▸ ⟨d, s.snap, rfl, .kept _ rfl⟩
  · exact h ▸ ⟨s.d, s.snap, rfl, .kept _ rfl⟩

theorem runDevinfo_decodesFrom (f : List Byte) (s : State) : DecodesFrom s (runDevinfo f s) := by
  obtain ⟨g, h, -⟩ | ⟨h, -⟩ := runDevinfo_cases f s
  · exact h ▸ ⟨s.d, _, rfl, .devinfo g⟩
  · exact h ▸ ⟨s.d, s.snap, rfl, .kept _ rfl⟩

theorem runUnhandled_decodesFrom (s : State) : DecodesFrom s (runUnhandled s) :=
  ⟨s.d, s.snap, rfl, .kept _ rfl⟩

theorem runDecode_decodesFrom (fn : Byte) (f : List Byte) (s : State) :
    DecodesFrom s (runDecode fn f s) := by
  unfold runDecode
  split
  · exact runStatus_decodesFrom f s
  · split
    · exact runDevinfo_decodesFrom f s
    · exact runUnhandled_decodesFrom s

/-! ## What an operation can do -/

/-- The states a FEED may end in (R90): the bytes kept with no candidate, or an attempt that ends with an
empty buffer, rejected or accepted and decoded. -/
inductive FeedEffect (s : State) (chunk : List Byte) : State → Prop
  | noCandidate (h : (assembled s.fb chunk).getLast? ≠ some foot1) :
      FeedEffect s chunk
        (State.emitting { s with fb := assembled s.fb chunk } (recordOf s.fb chunk .noCandidate))
  | rejected (v : ValidatorScratch) (acc : Half) (reason : RejectReason) :
      FeedEffect s chunk
        (State.emitting { s with fb := [], v := v, crcAcc := acc }
          (recordOf s.fb chunk (.rejected reason)))
  | accepted (v : ValidatorScratch) (acc : Half) (d : DecoderScratch) (snap : Snapshot) (fn : Byte)
      (o : DecodeOutcome) (h : s.snap.Decoded s.cfg o snap) :
      FeedEffect s chunk
        (State.emitting { s with fb := [], v := v, crcAcc := acc, d := d, snap := snap }
          (recordOf s.fb chunk (.accepted fn (assembled s.fb chunk) o)))

theorem runFeed_effect (chunk : List Byte) (s : State) : FeedEffect s chunk (runFeed chunk s) := by
  simp only [runFeed, assemble_eq, ← recordOf_eq]
  obtain ⟨hc, hj⟩ | ⟨-, v, acc, ⟨reason, -, hj⟩ | ⟨fn, -, hj⟩⟩ :=
    judge_cases { s with fb := assembled s.fb chunk }
  · rw [hj]
    exact .noCandidate (isCandidate_eq_false_iff.mp hc)
  · rw [hj]
    exact .rejected v acc reason
  · obtain ⟨d, snap, hs, hd⟩ := runDecode_decodesFrom fn (assembled s.fb chunk)
      { s with fb := [], v := v, crcAcc := acc }
    rw [hj, hs]
    exact .accepted v acc d snap fn _ hd

theorem execFeed_effect {chunk : List Byte} {s t : State} (h : exec (.feed chunk) s = .next t) :
    chunk.length ≤ s.cfg.chunkMax ∧ FeedEffect s chunk t := by
  obtain ⟨hc, rfl⟩ := execFeed_eq_next.mp h
  exact ⟨hc, runFeed_effect chunk s⟩

/-- The states an operation may end in: RESET's, a FEED's, that of an operation that writes at most the
validator's scratch and returns no decode outcome, and that of a decoder operation. -/
inductive Effect (s : State) : Instr → State → Prop
  | reset : Effect s .reset (s.resetOperation.returning .nothing)
  | feed (chunk : List Byte) {t : State} (hc : chunk.length ≤ s.cfg.chunkMax)
      (h : FeedEffect s chunk t) : Effect s (.feed chunk) t
  | scratch (i : Instr) (v : ValidatorScratch) (acc : Half) (r : Returned)
      (hi : ∀ chunk, i ≠ .feed chunk) (hr : ∀ u : State, (u.returning r).decodeOutcome? = none) :
      Effect s i (State.returning { s with v := v, crcAcc := acc } r)
  | decoder (i : Instr) (d : DecoderScratch) (snap : Snapshot) (fn : Byte) (o : DecodeOutcome)
      (hi : ∀ chunk, i ≠ .feed chunk) (h : s.snap.Decoded s.cfg o snap) :
      Effect s i (State.returning { s with d := d, snap := snap } (.decoded fn o))

theorem finishDecode_effect {s : State} {p : State × DecodeOutcome} (h : DecodesFrom s p) (i : Instr)
    (fn : Byte) (hi : ∀ chunk, i ≠ .feed chunk) : Effect s i (finishDecode fn p) := by
  obtain ⟨d, snap, hs, hd⟩ := h
  rw [finishDecode, hs]
  exact .decoder i d snap fn _ hi hd

/-- Whatever an operation answers is one of the effects; the claims about all operations rest on this. -/
theorem exec_effect {i : Instr} {s t : State} (h : exec i s = .next t) : Effect s i t := by
  cases i with
  | reset => cases h; exact .reset
  | feed chunk =>
    obtain ⟨hc, hf⟩ := execFeed_effect h
    exact .feed chunk hc hf
  | snapRead => cases h; exact .scratch _ s.v s.crcAcc _ nofun fun _ => rfl
  | crc16 b => cases h; exact .scratch _ s.v (crc16 b) _ nofun fun _ => rfl
  | validate buf =>
    obtain ⟨v, acc, hv⟩ := runValidate_frame buf s
    cases h
    rw [hv]
    exact .scratch _ v acc _ nofun fun _ => rfl
  | decode fn f => cases h; exact finishDecode_effect (runDecode_decodesFrom fn f s) _ _ nofun
  | status f => cases h; exact finishDecode_effect (runStatus_decodesFrom f s) _ _ nofun
  | devinfo f => cases h; exact finishDecode_effect (runDevinfo_decodesFrom f s) _ _ nofun
  | _ => cases h; exact finishDecode_effect (runUnhandled_decodesFrom s) _ _ nofun

/-! ## The invariant -/

theorem Snapshot.Decoded.keeps_consistent {cfg : Config} {a b : Snapshot} {o : DecodeOutcome}
    (h : a.Decoded cfg o b) (ha : a.statusValid = true → a.status.Consistent cfg) :
    b.statusValid = true → b.status.Consistent cfg := by
  cases h with
  | status g hg => exact fun _ => hg
  | devinfo g => exact ha
  | kept o ho => exact ha

/-- An empty buffer is within capacity and no candidate. -/
theorem State.Inv.of_fb_nil {s : State} (hcfg : s.cfg.Wf) (hfb : s.fb = [])
    (hst : s.snap.statusValid = true → s.snap.status.Consistent s.cfg) : s.Inv :=
  { cfg := hcfg
    capacity := by simp [hfb]
    noCandidate := by simp [hfb]
    status := hst }

theorem FeedEffect.keeps_inv {s t : State} {chunk : List Byte} (h : FeedEffect s chunk t)
    (hc : chunk.length ≤ s.cfg.chunkMax) (hs : s.Inv) : t.Inv := by
  cases h with
  | noCandidate h =>
    exact
      { cfg := hs.cfg
        capacity := (assembled_length_le s.fb chunk).trans (Nat.add_le_add_left hc bufMax)
        noCandidate := h
        status := hs.status }
  | rejected v acc reason => exact .of_fb_nil hs.cfg rfl hs.status
  | accepted v acc d snap fn o h => exact .of_fb_nil hs.cfg rfl (h.keeps_consistent hs.status)

theorem exec_keeps_inv {i : Instr} {s t : State} (h : exec i s = .next t) (hs : s.Inv) : t.Inv := by
  cases exec_effect h with
  | reset => exact .of_fb_nil hs.cfg rfl nofun
  | feed chunk hc hf => exact hf.keeps_inv hc hs
  | scratch => exact ⟨hs.cfg, hs.capacity, hs.noCandidate, hs.status⟩
  | decoder i d snap fn o hi hd =>
    exact ⟨hs.cfg, hs.capacity, hs.noCandidate, hd.keeps_consistent hs.status⟩

/-- A step with a next state idles, or runs an operation on the state without it in the queue. -/
theorem step_cases {s t : State} (h : step s = .next t) :
    t = s ∨ ∃ r rest i, s.pending = r :: rest ∧ decode r = .ok i ∧
      exec i { s with pending := rest } = .next t := by
  unfold step State.fetch at h
  cases hp : s.pending with
  | nil => rw [hp] at h; cases h; exact .inl rfl
  | cons r rest =>
    rw [hp] at h
    cases hd : decode r with
    | ok i => exact .inr ⟨r, rest, i, rfl, hd, by simpa [hd] using h⟩
    | error e => simp [hd] at h

/-- Settles O6, from the effect of each operation: a FEED keeps at most 152 old bytes and no final 0x55, and
only STATUS makes a group valid. -/
theorem everyStepKeepsInvariant : Obligations.EveryStepKeepsInvariant := by
  intro s t hs h
  obtain rfl | ⟨r, rest, i, -, -, hi⟩ := step_cases h
  · exact hs
  · exact exec_keeps_inv hi ⟨hs.cfg, hs.capacity, hs.noCandidate, hs.status⟩

/-- Settles O5: the reference configuration conforms, and at reset the buffer is empty and no group valid. -/
theorem resetStateMeetsInvariant : Obligations.ResetStateMeetsInvariant :=
  .of_fb_nil (by decide +kernel) rfl nofun

/-- Settles O13. -/
theorem resetStateIsEmpty : Obligations.ResetStateIsEmpty := ⟨rfl, rfl, rfl, rfl⟩

/-! ## Frames and outputs of every operation -/

/-- Settles O7: no effect writes the configuration or the queue. -/
theorem noOperationWritesConfiguration : Obligations.NoOperationWritesConfiguration := by
  intro i s t h
  cases exec_effect h with
  | feed chunk hc hf => cases hf <;> exact ⟨rfl, rfl⟩
  | reset => exact ⟨rfl, rfl⟩
  | scratch => exact ⟨rfl, rfl⟩
  | decoder => exact ⟨rfl, rfl⟩

theorem Snapshot.Decoded.keeps_valid {cfg : Config} {a b : Snapshot} {o : DecodeOutcome}
    (h : a.Decoded cfg o b) : (a.statusValid = true → b.statusValid = true) ∧
      (a.devinfoValid = true → b.devinfoValid = true) := by
  cases h with
  | status g hg => exact ⟨fun _ => rfl, id⟩
  | devinfo g => exact ⟨id, fun _ => rfl⟩
  | kept o ho => exact ⟨id, id⟩

/-- Settles O11: a decode sets valid bits and clears none, and no other effect but RESET's writes them. -/
theorem onlyResetClearsValidBits : Obligations.OnlyResetClearsValidBits := by
  intro i s t hi h
  cases exec_effect h with
  | reset => exact absurd rfl hi
  | feed chunk hc hf =>
    cases hf with
    | noCandidate => exact ⟨id, id⟩
    | rejected => exact ⟨id, id⟩
    | accepted v acc d snap fn o hd => exact hd.keeps_valid
  | scratch => exact ⟨id, id⟩
  | decoder i d snap fn o hn hd => exact hd.keeps_valid

/-- A FEED shows on the event output the record it returns, one about its own buffer and chunk (R20). -/
theorem FeedEffect.emits {s t : State} {chunk : List Byte} (h : FeedEffect s chunk t) :
    ∃ o, t.event = some (recordOf s.fb chunk o) ∧ t.returned = .feed (recordOf s.fb chunk o) := by
  cases h <;> exact ⟨_, rfl, rfl⟩

/-- Settles O9: FEED ends by emitting, every other operation by returning with the output idle. -/
theorem onlyFeedEmitsAnEvent : Obligations.OnlyFeedEmitsAnEvent := by
  intro i s t h
  cases exec_effect h with
  | reset => simp
  | feed chunk hc hf =>
    obtain ⟨o, hev, hret⟩ := hf.emits
    simp [hev, hret]
  | scratch i v acc r hi => simp [hi]
  | decoder i d snap fn o hi => simp [hi]

/-! ## The buffer after FEED -/

/-- Settles O22: the bytes kept are the assembled ones, at most 152 before the chunk, and every attempt
clears them. -/
theorem bufferLengthAfterFeed : Obligations.BufferLengthAfterFeed := by
  intro s t chunk h
  obtain ⟨hc, he⟩ := execFeed_effect h
  have hlen : (assembled s.fb chunk).length ≤ 152 + chunk.length := assembled_length_le s.fb chunk
  cases he with
  | noCandidate => exact ⟨hlen, fun hne => absurd rfl hne, nofun⟩
  | rejected => exact ⟨Nat.zero_le _, fun _ => rfl, nofun⟩
  | accepted =>
    refine ⟨Nat.zero_le _, fun _ => rfl, fun fn f o ho => ?_⟩
    cases ho
    omega

/-- An empty chunk makes no candidate of a buffer that is none. -/
theorem assembled_nil_getLast?_ne {fb : List Byte} {b : Byte} (h : fb = [] ∨ fb.getLast? ≠ some b) :
    (assembled fb []).getLast? ≠ some b := by
  unfold assembled
  rcases h with rfl | h <;> split <;> simp_all

/-- From an assembled buffer that is no candidate, FEED ends in its first way (R94). -/
theorem runFeed_of_not_candidate {s : State} {chunk : List Byte}
    (h : (assembled s.fb chunk).getLast? ≠ some foot1) :
    runFeed chunk s =
      State.emitting { s with fb := assembled s.fb chunk } (recordOf s.fb chunk .noCandidate) := by
  have hc := isCandidate_eq_false_iff.mpr h
  simp [runFeed, assemble_eq, judge, hc, recordOf_eq]

/-- Settles O23: a buffer kept by FEED is no candidate, so an empty chunk after it finds none. -/
theorem bufferNeverEndsInFooter : Obligations.BufferNeverEndsInFooter := by
  refine ⟨fun s t h => ?_, fun s t chunk h => ?_, fun s hs => ?_⟩
  · cases h
    rfl
  · cases (execFeed_effect h).2 with
    | noCandidate hlast => exact .inr hlast
    | rejected => exact .inl rfl
    | accepted => exact .inl rfl
  · refine ⟨_, execFeed_eq_next.mpr ⟨Nat.zero_le _, rfl⟩, ?_⟩
    rw [runFeed_of_not_candidate (assembled_nil_getLast?_ne hs)]
    rfl

/-! ## Physical values -/

/-- A field with a scale has its raw integer over that power of ten as its physical value (D13). -/
theorem StatusGroup.physical_eq (g : StatusGroup) (x : StatusField) :
    g.physical x = (scalePlaces x).map fun k => (g.raw x : ℚ) / 10 ^ k := rfl

theorem StatusGroup.cellVolts_eq (g : StatusGroup) :
    g.cellVolts = g.cellVoltage.map fun h => (h.toNat / 1000 : ℚ) := by
  norm_num [StatusGroup.cellVolts, scaled]

theorem scaled_zero (r : Int) : scaled r 0 = r := by simp [scaled]

theorem StatusGroup.degrees_eq (g : StatusGroup) :
    g.degrees = g.temperature.map fun h => (h.toInt : ℚ) := by
  simp only [StatusGroup.degrees, scaled_zero]

theorem StatusGroup.mosfetDegrees_eq (g : StatusGroup) :
    g.mosfetDegrees = g.mosfetTemperature.map fun h => (h.toInt : ℚ) := by
  simp only [StatusGroup.mosfetDegrees, scaled_zero]

theorem StatusGroup.balancerDegrees_eq (g : StatusGroup) :
    g.balancerDegrees = g.balancerTemperature.map fun h => (h.toInt : ℚ) := by
  simp only [StatusGroup.balancerDegrees, scaled_zero]

/-- Settles O55: the fields by the tables of `scalePlaces` and `StatusGroup.raw`, the sequences and the two
copies by their own lemmas. -/
theorem physicalValuesAreExact : Obligations.PhysicalValuesAreExact := by
  intro g
  norm_num [g.physical_eq, scalePlaces, StatusGroup.raw, g.cellVolts_eq, g.degrees_eq,
    g.mosfetDegrees_eq, g.balancerDegrees_eq]

end Sys2Proof.Machine

/-! # Memory: the little-endian reads, the step from the queue, SNAP.READ -/

namespace Sys2Proof.Machine

/-! ## Little-endian reads -/

/-- A read that has a value has the plain little-endian one (R31). -/
theorem eq_leValue_of_memRead {f : List Byte} {n : Nat} :
    ∀ {o v : Nat}, memRead f o n = some v → v = leValue f o n := by
  induction n with
  | zero => intro o v h; cases h; rfl
  | succ n ih =>
    intro o v h
    obtain ⟨b, r, hb, hr, rfl⟩ := memRead_succ_eq_some.mp h
    rw [leValue, List.getD_eq_getElem?_getD, hb, ← ih hr, Option.getD_some]

/-- A read of at least one byte is the little-endian value inside the sequence and nothing outside (R35). -/
theorem memRead_eq_ite (f : List Byte) (o n : Nat) : memRead f o (n + 1) =
    if o + (n + 1) ≤ f.length then some (leValue f o (n + 1)) else none := by
  have hsome := memRead_isSome f n o
  cases h : memRead f o (n + 1) with
  | none =>
    rw [h] at hsome
    rw [if_neg (of_decide_eq_false hsome.symm)]
  | some v =>
    rw [h] at hsome
    rw [if_pos (of_decide_eq_true hsome.symm), eq_leValue_of_memRead h]

theorem leValue_lt (f : List Byte) (n : Nat) : ∀ o, leValue f o n < 2 ^ (8 * n) := by
  induction n with
  | zero => intro o; exact Nat.one_pos
  | succ n ih =>
    intro o
    have hb := (f.getD o 0#8).isLt
    have hr := ih (o + 1)
    rw [leValue, show 8 * (n + 1) = 8 * n + 8 from rfl, Nat.pow_add]
    omega

/-- The first `m` bytes are the low digits, the bytes after them the high ones. -/
theorem leValue_add (f : List Byte) (m n : Nat) :
    ∀ o, leValue f o (m + n) = leValue f o m + 256 ^ m * leValue f (o + m) n := by
  induction m with
  | zero => intro o; simp [leValue]
  | succ m ih =>
    intro o
    have hoff : o + 1 + m = o + (m + 1) := Nat.add_right_comm o 1 m
    rw [Nat.succ_add, leValue, leValue, ih (o + 1), hoff, Nat.pow_succ]
    ring

/-- A register as wide as the bytes read holds their little-endian value. -/
theorem memRead_register_toNat (f : List Byte) (o n : Nat) :
    ((memRead f o (n + 1)).map (BitVec.ofNat (8 * (n + 1)))).map BitVec.toNat =
      if o + (n + 1) ≤ f.length then some (leValue f o (n + 1)) else none := by
  rw [memRead_eq_ite]
  split
  · simp only [Option.map_some, BitVec.toNat_ofNat, Nat.mod_eq_of_lt (leValue_lt f (n + 1) o)]
  · rfl

theorem rd16_toNat (f : List Byte) (o : Nat) : (rd16 f o).map BitVec.toNat =
    if o + 2 ≤ f.length then some (leValue f o 2) else none :=
  memRead_register_toNat f o 1

theorem rd32_toNat (f : List Byte) (o : Nat) : (rd32 f o).map BitVec.toNat =
    if o + 4 ≤ f.length then some (leValue f o 4) else none :=
  memRead_register_toNat f o 3

/-- Settles O54: a read is its bytes' little-endian value, and four bytes are two 16-bit values. -/
theorem readsAreLittleEndian : Obligations.ReadsAreLittleEndian := by
  intro f o
  have hfour : leValue f o 4 = leValue f o 2 + 65536 * leValue f (o + 2) 2 := leValue_add f 2 2 o
  exact ⟨rd16_toNat f o, hfour ▸ rd32_toNat f o⟩

/-! ## The step from the queue -/

theorem State.fetch_of_nil {s : State} (h : s.pending = []) : s.fetch = none := by
  rw [State.fetch, h]

theorem State.fetch_of_cons {s : State} {r : Request} {rest : List Request}
    (h : s.pending = r :: rest) : s.fetch = some (r, { s with pending := rest }) := by
  rw [State.fetch, h]

/-- Settles O4, from what fetching gives with and without a waiting request. -/
theorem stepRunsDecodedOperation : Obligations.StepRunsDecodedOperation := by
  intro s r rest
  refine ⟨fun hnil => ?idle, fun hcons => ⟨fun i hi => ?runs, fun e he => ?refused⟩⟩
  case idle => rw [step, State.fetch_of_nil hnil]
  case runs => simp only [step, State.fetch_of_cons hcons, hi]
  case refused => simp only [step, State.fetch_of_cons hcons, he]

/-! ## SNAP.READ -/

/-- SNAP.READ's view of the status group: absent where reading it faults (R18). -/
theorem State.readStatus_toOption (s : State) :
    s.readStatus.toOption = if s.snap.statusValid then some s.snap.status else none := by
  unfold State.readStatus
  split <;> rfl

theorem State.readDevinfo_toOption (s : State) :
    s.readDevinfo.toOption = if s.snap.devinfoValid then some s.snap.devinfo else none := by
  unfold State.readDevinfo
  split <;> rfl

theorem snapshotRead_eq (s : State) : snapshotRead s =
    { statusValid := s.snap.statusValid
      devinfoValid := s.snap.devinfoValid
      status := if s.snap.statusValid then some s.snap.status else none
      devinfo := if s.snap.devinfoValid then some s.snap.devinfo else none } := by
  rw [snapshotRead, s.readStatus_toOption, s.readDevinfo_toOption]

theorem exec_snapRead (s : State) :
    exec .snapRead s = .next (s.returning (.snap (snapshotRead s))) := rfl

/-- Settles O15: the operation only returns, and what it returns leaves out the groups whose read faults. -/
theorem snapReadReturnsValidGroups : Obligations.SnapReadReturnsValidGroups := by
  intro s
  rw [exec_snapRead, snapshotRead_eq, State.returning]

end Sys2Proof.Machine

/-! # Encoding: requests and operations, whole frames through the engine, the bytes STATUS interprets -/

namespace Sys2Proof.Machine

/-! ## Selection by the function code -/

theorem decode_frame_of_getElem? {f : List Byte} {fn : Byte} (h : f[2]? = some fn) :
    decode ⟨.frame, f⟩ = .ok (selectFrameOperation fn f) := by
  simp only [decode, decodeFrame, h]

theorem selectFrameOperation_of_not_listed {fn : Byte} (f : List Byte) (h : fn ∉ listedCodes) :
    selectFrameOperation fn f = .fnxx fn f := by
  simp only [listedCodes, List.mem_cons, List.not_mem_nil, or_false, not_or] at h
  simp [selectFrameOperation, h]

/-- A listed code selects an operation of that code on the whole frame, and not `FNxx` (R53). -/
theorem selectFrameOperation_of_listed {fn : Byte} (f : List Byte) (h : fn ∈ listedCodes) :
    (selectFrameOperation fn f).frame? = some f ∧
      (selectFrameOperation fn f).functionCode? = some fn ∧
      selectFrameOperation fn f ≠ .fnxx fn f := by
  simp only [listedCodes, List.mem_cons, List.not_mem_nil, or_false] at h
  rcases h with rfl | rfl | rfl | rfl | rfl | rfl | rfl | rfl | rfl | rfl | rfl | rfl <;>
    exact ⟨rfl, rfl, nofun⟩

/-- A frame that carries its code decodes, with the code written again, to what the code selects. -/
theorem decode_withFunctionCode {fn : Byte} {f : List Byte} (h : carriesCode fn f = true) :
    decode ⟨.frame, withFunctionCode fn f⟩ = .ok (selectFrameOperation fn f) := by
  rw [Laws.withFunctionCode_of_carries h]
  exact decode_frame_of_getElem? (by simpa [carriesCode] using h)

/-- Settles O1: a port or unit operation is encoded with its operand as the bytes, and a well-formed frame
operation's frame already carries the code that selects it. -/
theorem decodeInvertsEncode : Obligations.DecodeInvertsEncode := by
  intro cfg i hw
  cases i with
  | reset | snapRead => rfl
  | feed b | crc16 b | validate b => rfl
  | decode fn f => rfl
  | status f | devinfo f | fn13 f | fn14 f | fn15 f | fn16 f | fn42 f | fn43 f | fn61 f
  | reqStatus f | reqDevinfo f | reqWrite f => exact decode_withFunctionCode hw
  | fnxx fn f =>
    obtain ⟨hcode, hlisted⟩ : carriesCode fn f = true ∧ fn ∉ listedCodes := by
      simpa [Instr.wellFormed] using hw
    rw [encode, decode_withFunctionCode hcode, selectFrameOperation_of_not_listed f hlisted]

/-- Settles O2, by whether R53 lists the code. -/
theorem functionCodeSelectsOperation : Obligations.FunctionCodeSelectsOperation := by
  intro f fn h
  refine ⟨_, decode_frame_of_getElem? h, ?_⟩
  by_cases hl : fn ∈ listedCodes
  · obtain ⟨hframe, hcode, hne⟩ := selectFrameOperation_of_listed f hl
    exact ⟨hframe, hcode, iff_of_false hne (not_not_intro hl)⟩
  · rw [selectFrameOperation_of_not_listed f hl]
    exact ⟨rfl, rfl, iff_of_true rfl hl⟩

/-! ## The bytes of a frame -/

theorem frameWith_length (fn : Byte) (addr : Half) (dlen : Byte) (p : List Byte) :
    (frameWith fn addr dlen p).length = 10 + p.length := by
  simp [frameWith, coveredBytes]
  omega

theorem frameWith_functionCode (fn : Byte) (addr : Half) (dlen : Byte) (p : List Byte) :
    (frameWith fn addr dlen p)[2]? = some fn := rfl

theorem frameWith_dlen (fn : Byte) (addr : Half) (dlen : Byte) (p : List Byte) :
    (frameWith fn addr dlen p)[5]? = some dlen := rfl

theorem frameWith_take_two (fn : Byte) (addr : Half) (dlen : Byte) (p : List Byte) :
    (frameWith fn addr dlen p).take 2 = [0x7E#8, 0xA1#8] := rfl

theorem frameWith_isCandidate (fn : Byte) (addr : Half) (dlen : Byte) (p : List Byte) :
    isCandidate (frameWith fn addr dlen p) = true := by
  simp only [isCandidate, frameWith, List.getLast?_append]
  rfl

theorem slice_frameWith (fn : Byte) (addr : Half) (dlen : Byte) (p : List Byte) :
    slice (frameWith fn addr dlen p) 1 (6 + p.length) = coveredBytes fn addr dlen p := by
  have hlen : (coveredBytes fn addr dlen p).length = 6 + p.length - 1 := by
    simp [coveredBytes]
    omega
  exact List.take_left' hlen

/-- A 16-bit value stored low byte first is read back (R31). -/
theorem rd16_stored (p q : List Byte) (h : Half) :
    rd16 (p ++ h.lowByte :: h.highByte :: q) p.length = some h := by
  have hbytes : BitVec.ofNat 16 (h.lowByte.toNat + 256 * h.highByte.toNat) = h := by
    apply BitVec.eq_of_toNat_eq
    simp [Half.lowByte, Half.highByte]
    omega
  simpa [rd16, memRead] using hbytes

theorem rd16_frameWith (fn : Byte) (addr : Half) (dlen : Byte) (p : List Byte) :
    rd16 (frameWith fn addr dlen p) (6 + p.length) = some (crc16 (coveredBytes fn addr dlen p)) := by
  have hlen : (pre0 :: coveredBytes fn addr dlen p).length = 6 + p.length := by
    simp [coveredBytes]
    omega
  rw [← hlen]
  exact rd16_stored (pre0 :: coveredBytes fn addr dlen p) [foot0, foot1] _

/-- The length byte of a FRAME declares its length, for payloads of at most 255 bytes (R64). -/
theorem frameLen_frameOf {p : List Byte} (hp : p.length ≤ 255) :
    frameLen (BitVec.ofNat 8 p.length) = 10 + p.length := by
  simp [frameLen]
  omega

/-! ## Opcode-table words -/

/-- A one-byte table word is laid out as the FRAME of its code with no payload (log 5). -/
theorem frameOfWord_eight (fn : Byte) : frameOfWord 8 fn.toNat = frameOf fn [] := by
  have hmod : fn.toNat % 256 = fn.toNat := Nat.mod_eq_of_lt fn.isLt
  have hhigh : fn.toNat >>> 8 = 0 := Nat.shiftRight_eq_zero _ _ fn.isLt
  have hdlen : fn.toNat >>> 24 = 0 := Nat.shiftRight_eq_zero _ _ (fn.isLt.trans (by decide))
  simp [frameOfWord, frameOf, frameStar, hmod, hhigh, hdlen]

theorem decodeTableWord_eight (fn : Byte) :
    decodeTableWord 8 fn.toNat = some (selectFrameOperation fn (frameOf fn [])) := by
  rw [decodeTableWord, frameOfWord_eight, frameOf, frameStar,
    decode_frame_of_getElem? (frameWith_functionCode _ _ _ _)]
  rfl

/-- Vector V1 of spec/95_test_vectors.md. -/
theorem frameOf_fn13_eq :
    frameOf 0x13#8 [] = [0x7E, 0xA1, 0x13, 0x00, 0x00, 0x00, 0x9D, 0x5D, 0xAA, 0x55] := by
  decide +kernel

/-- Settles O3: a table word is the FRAME of its code, and that of code 0x13 is vector V1. -/
theorem sampleWordsDecode : Obligations.SampleWordsDecode :=
  ⟨rfl, frameOf_fn13_eq ▸ decodeTableWord_eight 0x13#8,
    decodeTableWord_eight 0x11#8, rfl, rfl⟩

/-! ## The layouts -/

/-- Settles O59. -/
theorem bothLayoutsConform : Obligations.BothLayoutsConform :=
  ⟨by decide, by decide, rfl, rfl⟩

/-! ## VALIDATE by the header bytes -/

theorem exec_validate (buf : List Byte) (s : State) : exec (.validate buf) s =
    .next ((runValidate buf s).1.returning (.validated (runValidate buf s).2)) := rfl

/-- With its header bytes there, a candidate goes on to the checks of R114. -/
theorem runValidate_of_header {buf : List Byte} {fn dlen : Byte} (s : State) (hlen : 6 ≤ buf.length)
    (hfn : buf[2]? = some fn) (hdlen : buf[5]? = some dlen) :
    runValidate buf s = checkFrame buf fn (frameLen dlen)
      (s.setValidator { s.v with fn := fn, dlen := dlen, flen := BitVec.ofNat 16 (frameLen dlen) }) := by
  simp only [runValidate, if_neg (not_lt.mpr hlen), rd8_eq, hfn, hdlen]

/-- A candidate of another length than it declares is rejected, 0x12 aside (R108). -/
theorem checkFrame_of_wrong_length {buf : List Byte} {fn : Byte} {flen : Nat} (s : State)
    (hfn : fn ≠ fnDevinfo) (hlen : flen ≠ buf.length) :
    checkFrame buf fn flen s = (s, .rejected .lengthMismatch) :=
  if_pos ⟨hfn, hlen⟩

theorem checkFrame_of_declared_length {buf : List Byte} {flen : Nat} (fn : Byte) (s : State)
    (hlen : flen = buf.length) : checkFrame buf fn flen s = checkCrc buf fn flen s := by
  simp [checkFrame, hlen]

/-- In a frame as long as it declares, both places of D8 are the same. -/
theorem storedCrcOffset_self (cfg : Config) (fn : Byte) (n : Nat) :
    storedCrcOffset cfg fn n n = n - 4 :=
  ite_self _

/-- A frame of the declared length whose stored CRC is the computed one passes the CRC check (R109). -/
theorem checkCrc_of_stored {buf : List Byte} (fn : Byte) (s : State)
    (h : rd16 buf (buf.length - 4) = some (crc16 (slice buf 1 (buf.length - 4)))) :
    (checkCrc buf fn buf.length s).2 = .ok fn := by
  simp [checkCrc, storedCrcOffset_self, runCrc16_eq, h]

theorem runValidate_frameOf (fn : Byte) {p : List Byte} (s : State) (hp : p.length ≤ 255) :
    (runValidate (frameOf fn p) s).2 = .ok fn := by
  have hlen : (frameOf fn p).length = 10 + p.length := frameWith_length ..
  have hcrcAt : (frameOf fn p).length - 4 = 6 + p.length := by omega
  have hflen : frameLen (BitVec.ofNat 8 p.length) = (frameOf fn p).length :=
    (frameLen_frameOf hp).trans hlen.symm
  have hfn : (frameOf fn p)[2]? = some fn := frameWith_functionCode ..
  have hdlen : (frameOf fn p)[5]? = some (BitVec.ofNat 8 p.length) := frameWith_dlen ..
  rw [runValidate_of_header s (by omega) hfn hdlen, checkFrame_of_declared_length fn _ hflen, hflen]
  apply checkCrc_of_stored
  rw [hcrcAt, frameOf, frameStar, slice_frameWith, rd16_frameWith]

/-- Settles O37: the header bytes declare the frame's length, and the CRC read is the one stored. -/
theorem everyFrameValidates : Obligations.EveryFrameValidates := by
  intro s fn p hp
  obtain ⟨v, acc, hs⟩ := runValidate_frame (frameOf fn p) s
  refine ⟨v, acc, ?_⟩
  rw [exec_validate, runValidate_frameOf fn s hp, hs, State.returning]

/-! ## What the decoder does not look at -/

theorem runStatus_of_buffer_and_scratch (f : List Byte) (s : State) (fb : List Byte)
    (v : ValidatorScratch) (acc : Half) :
    runStatus f { s with fb := fb, v := v, crcAcc := acc } =
      ({ (runStatus f s).1 with fb := fb, v := v, crcAcc := acc }, (runStatus f s).2) := by
  unfold runStatus statusBody
  dsimp only [State.setDecoder]
  repeat' split
  all_goals rfl

/-- The decoder neither reads nor writes the buffer and the other units' scratch. -/
theorem runDecode_of_buffer_and_scratch (fn : Byte) (f : List Byte) (s : State) (fb : List Byte)
    (v : ValidatorScratch) (acc : Half) :
    runDecode fn f { s with fb := fb, v := v, crcAcc := acc } =
      ({ (runDecode fn f s).1 with fb := fb, v := v, crcAcc := acc }, (runDecode fn f s).2) := by
  unfold runDecode
  split
  · exact runStatus_of_buffer_and_scratch f s fb v acc
  · split
    · unfold runDevinfo
      repeat' split
      all_goals rfl
    · rfl

/-! ## A whole frame in one FEED -/

theorem exec_feed_of_le {chunk : List Byte} {s : State} (h : chunk.length ≤ s.cfg.chunkMax) :
    exec (.feed chunk) s = .next (runFeed chunk s) :=
  if_pos h

/-- A chunk that opens with the preamble is the whole buffer for step 4 (R92). -/
theorem assembled_of_preamble (fb : List Byte) {chunk : List Byte}
    (h : chunk.take 2 = [0x7E#8, 0xA1#8]) : assembled fb chunk = chunk := by
  simp [assembled, h]

/-- A rejected candidate leaves the buffer empty and changes nothing else but VALIDATE's scratch (R95). -/
theorem runFeed_of_rejected {s : State} {chunk : List Byte} {reason : RejectReason}
    (hc : isCandidate (assembled s.fb chunk) = true)
    (hv : (runValidate (assembled s.fb chunk) { s with fb := assembled s.fb chunk }).2 =
      .rejected reason) :
    ∃ v acc, runFeed chunk s = State.emitting { s with fb := [], v := v, crcAcc := acc }
      (recordOf s.fb chunk (.rejected reason)) := by
  simp only [runFeed, assemble_eq, ← recordOf_eq]
  obtain ⟨hn, -⟩ | ⟨-, v, acc, ⟨reason', hr, hj⟩ | ⟨fn, hok, -⟩⟩ :=
    judge_cases { s with fb := assembled s.fb chunk }
  · cases hc.symm.trans hn
  · cases hv.symm.trans hr
    exact ⟨v, acc, by rw [hj]⟩
  · cases hv.symm.trans hok

/-- An accepted candidate is decoded as the decoder decodes it from the state FEED began in, the buffer
left empty (R96). -/
theorem runFeed_of_ok {s : State} {chunk : List Byte} {fn : Byte}
    (hc : isCandidate (assembled s.fb chunk) = true)
    (hv : (runValidate (assembled s.fb chunk) { s with fb := assembled s.fb chunk }).2 = .ok fn) :
    ∃ v acc, runFeed chunk s = State.emitting
      { (runDecode fn (assembled s.fb chunk) s).1 with fb := [], v := v, crcAcc := acc }
      (recordOf s.fb chunk
        (.accepted fn (assembled s.fb chunk) (runDecode fn (assembled s.fb chunk) s).2)) := by
  simp only [runFeed, assemble_eq, ← recordOf_eq]
  obtain ⟨hn, -⟩ | ⟨-, v, acc, ⟨reason, hr, -⟩ | ⟨fn', hok, hj⟩⟩ :=
    judge_cases { s with fb := assembled s.fb chunk }
  · cases hc.symm.trans hn
  · cases hv.symm.trans hr
  · cases hv.symm.trans hok
    refine ⟨v, acc, ?_⟩
    rw [hj]
    dsimp only
    rw [runDecode_of_buffer_and_scratch]

theorem assembled_frameWith (fb : List Byte) (fn : Byte) (addr : Half) (dlen : Byte) (p : List Byte) :
    assembled fb (frameWith fn addr dlen p) = frameWith fn addr dlen p :=
  assembled_of_preamble fb (frameWith_take_two ..)

/-- Settles O27: the request is ten bytes long, and its value byte, read as a length, declares more. -/
theorem requestFedBackIsRejected : Obligations.RequestFedBackIsRejected := by
  intro s fn value addr hfn hvalue hmax
  have hlen : (requestFrame fn addr value).length = 10 := frameWith_length ..
  have hcode : (requestFrame fn addr value)[2]? = some fn := frameWith_functionCode ..
  have hdlen : (requestFrame fn addr value)[5]? = some value := frameWith_dlen ..
  have hflen : frameLen value ≠ (requestFrame fn addr value).length := by
    rw [hlen, frameLen]
    bv_omega
  have hassembled : assembled s.fb (requestFrame fn addr value) = requestFrame fn addr value :=
    assembled_frameWith ..
  obtain ⟨v, acc, hfeed⟩ :=
    runFeed_of_rejected (s := s) (chunk := requestFrame fn addr value) (reason := .lengthMismatch)
      (by rw [hassembled]; exact frameWith_isCandidate ..)
      (by rw [hassembled, runValidate_of_header _ (by omega) hcode hdlen,
            checkFrame_of_wrong_length _ hfn hflen])
  exact ⟨_, exec_feed_of_le (hlen.trans_le hmax), hfeed ▸ rfl⟩

/-- Settles O18: the frame is the whole buffer, validates, and is decoded by a decoder that sees neither the
buffer nor what VALIDATE wrote. -/
theorem frameDeliveredWholeIsAccepted : Obligations.FrameDeliveredWholeIsAccepted := by
  intro s fn p hp hmax
  have hassembled : assembled s.fb (frameOf fn p) = frameOf fn p := assembled_frameWith ..
  obtain ⟨v, acc, hfeed⟩ := runFeed_of_ok (s := s) (chunk := frameOf fn p) (fn := fn)
    (by rw [hassembled]; exact frameWith_isCandidate ..)
    (by rw [hassembled]; exact runValidate_frameOf fn _ hp)
  rw [hassembled] at hfeed
  exact ⟨_, _, (runDecode fn (frameOf fn p) s).2, exec_feed_of_le hmax, rfl, rfl,
    hfeed ▸ ⟨rfl, rfl, rfl, rfl⟩⟩

/-! ## Reads of agreeing bytes -/

/-- A read depends on the bytes it covers only. -/
theorem memRead_congr {f f' : List Byte} {n : Nat} :
    ∀ {o : Nat}, (∀ k, k < n → f[o + k]? = f'[o + k]?) → memRead f o n = memRead f' o n := by
  induction n with
  | zero => intro o _; rfl
  | succ n ih =>
    intro o h
    have hfirst : f[o]? = f'[o]? := h 0 n.succ_pos
    have hrest : memRead f (o + 1) n = memRead f' (o + 1) n :=
      ih fun k hk => by
        simpa only [Nat.add_assoc, Nat.add_comm 1 k] using h (k + 1) (Nat.succ_lt_succ hk)
    rw [memRead, memRead, hfirst, hrest]

theorem readHalves_congr {f f' : List Byte} {k : Nat} :
    ∀ {o : Nat}, (∀ i, o ≤ i → i < o + 2 * k → f[i]? = f'[i]?) →
      readHalves f o k = readHalves f' o k := by
  induction k with
  | zero => intro o _; rfl
  | succ k ih =>
    intro o h
    have hfirst : rd16 f o = rd16 f' o := by
      rw [rd16, rd16, memRead_congr fun i hi => h (o + i) (by omega) (by omega)]
    have hrest : readHalves f (o + 2) k = readHalves f' (o + 2) k :=
      ih fun i hlo hhi => h i (by omega) (by omega)
    rw [readHalves, readHalves, hfirst, hrest]

theorem readEntry_congr {f f' : List Byte} {base : Nat} {e : LayoutEntry}
    (h : ∀ k, k < e.width.bytes → f[base + e.disp + k]? = f'[base + e.disp + k]?) :
    readEntry f base e = readEntry f' base e := by
  have hread : memRead f (base + e.disp) e.width.bytes = memRead f' (base + e.disp) e.width.bytes :=
    memRead_congr h
  unfold readEntry rd8 rd16 rd32
  cases hw : e.width <;> rw [hw] at hread <;>
    exact congrArg (Option.map _) (congrArg (Option.map _) hread)

theorem readField_congr {L : StatusLayout} {f f' : List Byte} {base : Nat}
    (h : ∀ e ∈ L.entries, ∀ k, k < e.width.bytes → f[base + e.disp + k]? = f'[base + e.disp + k]?)
    (x : StatusField) : readField L f base x = readField L f' base x := by
  unfold readField
  split
  · next e he => exact readEntry_congr (h e (List.mem_of_find?_eq_some he))
  · rfl

/-- STATUS reads the block and the layout's fields, and no other byte of the payload (R129). -/
theorem readStatusGroup_congr {cfg : Config} {f f' : List Byte} {t c : Byte} (st : Byte)
    (hblock : ∀ k, cellBase ≤ k → k < fieldBase t c → f[k]? = f'[k]?)
    (hfields : ∀ e ∈ cfg.layout.entries, ∀ k, k < e.width.bytes →
      f[fieldBase t c + e.disp + k]? = f'[fieldBase t c + e.disp + k]?) :
    readStatusGroup cfg f st t c = readStatusGroup cfg f' st t c := by
  have hbase : fieldBase t c = cellBase + (2 * c.toNat + 2 * t.toNat) := rfl
  have hcells : readHalves f cellBase c.toNat = readHalves f' cellBase c.toNat :=
    readHalves_congr fun i hlo hhi => hblock i hlo (by omega)
  have htemps : readHalves f (cellBase + 2 * c.toNat) t.toNat =
      readHalves f' (cellBase + 2 * c.toNat) t.toNat :=
    readHalves_congr fun i hlo hhi => hblock i (by omega) (by omega)
  have hread : readFields cfg.layout f (fieldBase t c) = readFields cfg.layout f' (fieldBase t c) :=
    Option.ext fun w => by simp only [readFields_eq_some, readField_congr hfields]
  rw [readStatusGroup, readStatusGroup, hcells, htemps, hread]

theorem statusBody_congr {f f' : List Byte} {st t c : Byte} {s : State}
    (hlen : f.length = f'.length)
    (hgroup : readStatusGroup s.cfg f st t c = readStatusGroup s.cfg f' st t c) :
    statusBody f st t c s = statusBody f' st t c s := by
  rw [statusBody, statusBody, hlen, hgroup]

theorem exec_status (f : List Byte) (s : State) :
    exec (.status f) s = .next (finishDecode 0x11#8 (runStatus f s)) := rfl

/-- Settles O51: the length check and the header bytes read offsets 5 and 7 to 9, and the group the bytes
of the block and of the layout's entries. -/
theorem statusIgnoresUninterpretedBytes : Obligations.StatusIgnoresUninterpretedBytes := by
  intro s f f' hlen hheader ⟨hblock, hfields⟩
  have h5 : f[5]? = f'[5]? := hheader 5 (by simp)
  have h7 : f[7]? = f'[7]? := hheader 7 (by simp)
  have h8 : f[8]? = f'[8]? := hheader 8 (by simp)
  have h9 : f[9]? = f'[9]? := hheader 9 (by simp)
  suffices hrun : runStatus f s = runStatus f' s by
    rw [exec_status, exec_status, hrun]
  have hcheck : statusLengthHolds f = statusLengthHolds f' := by
    simp only [statusLengthHolds, rd8_eq, h5, hlen]
  simp only [runStatus, rd8_eq, hcheck, ← h7, ← h8, ← h9]
  split
  · split
    · next st t c _ ht hc =>
      rw [List.getD_eq_getElem?_getD, List.getD_eq_getElem?_getD, hc, ht] at hblock hfields
      have hgroup : readStatusGroup s.cfg f st t c = readStatusGroup s.cfg f' st t c :=
        readStatusGroup_congr st hblock hfields
      exact if_congr Iff.rfl rfl (statusBody_congr hlen hgroup)
    · rfl
  · rfl

/-! ## The fields of an admitted frame -/

theorem rd8_isSome (f : List Byte) (o : Nat) : (rd8 f o).isSome = decide (o + 1 ≤ f.length) := by
  simpa [rd8] using memRead_isSome f 0 o

/-- An entry inside the frame is read, at the width it has (R35). -/
theorem readEntry_isSome {f : List Byte} {base : Nat} {e : LayoutEntry}
    (h : base + e.disp + e.width.bytes ≤ f.length) : (readEntry f base e).isSome = true := by
  unfold readEntry
  cases hw : e.width <;> rw [hw] at h
  case one => rw [Option.isSome_map, rd8_isSome]; exact decide_eq_true h
  case two => rw [Option.isSome_map, rd16_isSome]; exact decide_eq_true h
  case four => rw [Option.isSome_map, rd32_isSome]; exact decide_eq_true h

/-- What is read for an entry: the little-endian value of its bytes, widened under its sign (R58). -/
theorem eq_widen_of_readEntry {f : List Byte} {base : Nat} {e : LayoutEntry} {w : Word}
    (h : readEntry f base e = some w) :
    w = widen e.signed
      (BitVec.ofNat (8 * e.width.bytes) (leValue f (base + e.disp) e.width.bytes)) := by
  unfold readEntry rd8 rd16 rd32 at h
  cases hw : e.width <;> rw [hw] at h <;>
    obtain ⟨_, ⟨v, hv, rfl⟩, rfl⟩ := by simpa only [Option.map_eq_some_iff] using h
  all_goals rw [eq_leValue_of_memRead hv]; rfl

theorem readField_of_mem {L : StatusLayout} (hL : L.Wf) {e : LayoutEntry} (he : e ∈ L.entries)
    (f : List Byte) (base : Nat) : readField L f base e.field = readEntry f base e := by
  rw [readField, entry_of_mem hL he]

theorem statusLengthHolds_iff (f : List Byte) :
    statusLengthHolds f = true ↔ declaredLength f = some f.length := by
  unfold statusLengthHolds declaredLength
  rw [rd8_eq]
  cases f[5]? with
  | none => exact iff_of_false nofun nofun
  | some dlen =>
    simp only [beq_iff_eq, Option.map_some, Option.some.injEq]
    exact eq_comm

/-- Every read of an admitted frame lies inside it. -/
theorem readStatusGroup_of_admitted {cfg : Config} {f : List Byte} {st t c : Byte} (hcfg : cfg.Wf)
    (h : StatusAdmitted cfg f st t c) : ∃ g, readStatusGroup cfg f st t c = some g := by
  obtain ⟨-, -, -, -, -, -, hsize⟩ := h
  obtain ⟨-, hL, -⟩ := hcfg
  refine Option.isSome_iff_exists.mp (readStatusGroup_isSome ?cells ?temps fun x => ?field)
  case cells =>
    rw [readHalves_isSome, decide_eq_true_iff, cellBase]
    omega
  case temps =>
    rw [readHalves_isSome, decide_eq_true_iff, cellBase]
    omega
  case field =>
    obtain ⟨e, he, rfl⟩ := exists_entry hL x
    have hend : e.disp + e.width.bytes ≤ cfg.layout.size := (hL.2.2 e he).1
    rw [readField_of_mem hL he]
    apply readEntry_isSome
    rw [fieldBase, blockOffset, cellBase]
    omega

/-- STATUS commits the group it reads from an admitted frame (R121, R134). -/
theorem runStatus_of_admitted {s : State} {f : List Byte} {st t c : Byte} (hcfg : s.cfg.Wf)
    (h : StatusAdmitted s.cfg f st t c) :
    ∃ g, ReadFrom s.cfg f st t c g ∧ runStatus f s =
      ({ s with
          snap := { s.snap with status := g, statusValid := true }
          d :=
            { st := st, t := t, c := c
              off := BitVec.ofNat 16 (blockOffset t c)
              base := BitVec.ofNat 16 (fieldBase t c) } },
        .statusUpdated) := by
  obtain ⟨g, hg⟩ := readStatusGroup_of_admitted hcfg h
  obtain ⟨hlen, h7, h8, h9, hc, ht, hsize⟩ := h
  have hcounts : ¬ (cellMax < c.toNat ∨ tempMax < t.toNat) := by
    rw [cellMax, tempMax]
    omega
  have hfits : ¬ f.length < fieldBase t c + s.cfg.layout.size := not_lt.mpr hsize
  refine ⟨g, readStatusGroup_readFrom hg, ?_⟩
  simp only [runStatus, (statusLengthHolds_iff f).mpr hlen, rd8_eq, h7, h8, h9, if_true,
    if_neg hcounts, statusBody, State.setDecoder, if_neg hfits, hg]
  rfl

theorem exec_status_of_admitted {s : State} {f : List Byte} {st t c : Byte} (hcfg : s.cfg.Wf)
    (h : StatusAdmitted s.cfg f st t c) :
    ∃ u, exec (.status f) s = .next u ∧ ReadFrom s.cfg f st t c u.snap.status := by
  obtain ⟨g, hg, hrun⟩ := runStatus_of_admitted hcfg h
  exact ⟨_, exec_status f s, hrun ▸ hg⟩

/-! ## A register and the raw integer it holds -/

theorem StatusGroup.raw_of_unsigned (g : StatusGroup) {x : StatusField} (h : x.isSigned = false) :
    g.raw x = (g.register x).toNat := by
  cases x with
  | current | power => cases h
  | _ =>
    simp [StatusGroup.raw, StatusGroup.register, -BitVec.toNat_setWidth, BitVec.toNat_setWidth_of_le]

theorem StatusGroup.raw_of_signed (g : StatusGroup) {x : StatusField} (h : x.isSigned = true) :
    g.raw x = ((g.register x).setWidth (8 * x.registerBytes)).toInt := by
  cases x with
  | current | power => simp [StatusGroup.raw, StatusGroup.register, StatusField.registerBytes]
  | _ => cases h

/-- A conforming entry of a signed field is as wide as the field's register (R55). -/
theorem registerBytes_of_signed {size : Nat} {e : LayoutEntry} (h : e.Conforms size)
    (hs : e.signed = true) : e.field.registerBytes = e.width.bytes := by
  obtain ⟨-, hsign, hregister, hstated, hone⟩ := h
  have hne : e.width ≠ .one := hone hs
  rw [hs] at hsign
  cases hf : e.field <;> rw [hf] at hsign hregister hstated <;> cases hsign
  case current =>
    cases hw : e.width with
    | one => exact absurd hw hne
    | two => rfl
    | four => rw [hw] at hregister; exact absurd hregister (by decide)
  case power => exact hstated

theorem toInt_ofNat_sixteen {u : Nat} (h : u < 65536) : (BitVec.ofNat 16 u).toInt = asI16 u := by
  rw [BitVec.toInt_eq_toNat_cond, BitVec.toNat_ofNat, Nat.mod_eq_of_lt h, asI16]
  split <;> split <;> omega

theorem toInt_ofNat_thirtyTwo {u : Nat} (h : u < 4294967296) :
    (BitVec.ofNat 32 u).toInt = asI32 u := by
  rw [BitVec.toInt_eq_toNat_cond, BitVec.toNat_ofNat, Nat.mod_eq_of_lt h, asI32]
  split <;> split <;> omega

/-- The raw integer of a signed entry is its bits in two's complement (R7, R58). -/
theorem toInt_eq_entryValue {e : LayoutEntry} {u : Nat} (hs : e.signed = true) (hne : e.width ≠ .one)
    (hu : u < 2 ^ (8 * e.width.bytes)) :
    (BitVec.ofNat (8 * e.width.bytes) u).toInt = entryValue e u := by
  rw [entryValue, if_pos hs]
  cases hw : e.width with
  | one => exact absurd hw hne
  | two => rw [hw] at hu; exact toInt_ofNat_sixteen hu
  | four => rw [hw] at hu; exact toInt_ofNat_thirtyTwo hu

/-- An unsigned entry's register, at least as wide as the entry, holds its value (R58). -/
theorem widen_unsigned_toNat {n m u : Nat} (hn : n ≤ m) (hm : m ≤ 32) (hu : u < 2 ^ n) :
    ((widen false (BitVec.ofNat n u)).setWidth m |>.setWidth 32).toNat = u := by
  have hum : u < 2 ^ m := hu.trans_le (Nat.pow_le_pow_right two_pos hn)
  have hu32 : u < 2 ^ 32 := hum.trans_le (Nat.pow_le_pow_right two_pos hm)
  simp only [widen, Bool.false_eq_true, if_false, BitVec.toNat_setWidth, BitVec.toNat_ofNat,
    Nat.mod_eq_of_lt hu, Nat.mod_eq_of_lt hum, Nat.mod_eq_of_lt hu32]

/-- A signed value widened to 32 bits is itself at its own width again (R7). -/
theorem setWidth_widen_signed {n : Nat} (h : n ≤ 32) (x : BitVec n) :
    (((widen true x).setWidth n).setWidth 32).setWidth n = x := by
  ext i hi
  have hi32 : i < 32 := by omega
  simp [widen, BitVec.getElem_signExtend, hi, hi32]

/-- Each field of a committed group holds the raw integer its entry describes (R58, R129). -/
theorem ReadFrom.raw_eq {cfg : Config} {f : List Byte} {st t c : Byte} {g : StatusGroup}
    (r : ReadFrom cfg f st t c g) (hL : cfg.layout.Wf) {e : LayoutEntry}
    (he : e ∈ cfg.layout.entries) :
    g.raw e.field = entryValue e (leValue f (fieldBase t c + e.disp) e.width.bytes) := by
  obtain ⟨-, hsign, hregister, -, hone⟩ := hL.2.2 e he
  obtain ⟨w, hw, hreg⟩ := r.fields e.field
  rw [readField_of_mem hL he] at hw
  rw [eq_widen_of_readEntry hw] at hreg
  have hlt := leValue_lt f e.width.bytes (fieldBase t c + e.disp)
  have hfour : e.field.registerBytes ≤ 4 := by cases e.field <;> decide
  cases hs : e.signed with
  | false =>
    rw [g.raw_of_unsigned (hsign.symm.trans hs), hreg, hs,
      widen_unsigned_toNat (by omega) (by omega) hlt, entryValue, hs]
    rfl
  | true =>
    rw [g.raw_of_signed (hsign.symm.trans hs), hreg, hs, registerBytes_of_signed (hL.2.2 e he) hs,
      setWidth_widen_signed (by omega), toInt_eq_entryValue hs (hone hs) hlt]

/-- Settles O48: the 23 entries of the reference layout, each by what its register holds. -/
theorem referenceLayoutPlacesTheFields : Obligations.ReferenceLayoutPlacesTheFields := by
  intro s f st t c hcfg hlayout hadmitted
  obtain ⟨u, hu, hg⟩ := exec_status_of_admitted hcfg hadmitted
  have hraw : ∀ e ∈ layoutRef.entries, u.snap.status.raw e.field =
      entryValue e (leValue f (34 + (2 * c.toNat + 2 * t.toNat) + e.disp) e.width.bytes) :=
    fun e he => hg.raw_eq hcfg.2.1 (hlayout ▸ he)
  refine ⟨u, hu, ?_⟩
  simpa only [layoutRef, List.forall_mem_cons, List.not_mem_nil, false_imp_iff, implies_true,
    and_true, StatusGroup.raw, entryValue, FieldWidth.bytes, Bool.false_eq_true, reduceCtorEq, if_true,
    if_false, Nat.cast_inj] using hraw

end Sys2Proof.Machine

/-! # The checksum: eight shift steps per byte on the running value XOR the bytes' little-endian number -/

namespace Sys2Proof.Machine

/-! ## The shift step on numbers -/

/-- One shift step of the register is the numeric one (R80). -/
theorem crcShift_toNat (acc : Half) : (crcShift acc).toNat = crcIteration acc.toNat := by
  have hbit : acc.getLsbD 0 = decide (acc.toNat % 2 = 1) := Nat.testBit_zero _
  have hhalf : (acc >>> 1).toNat = acc.toNat / 2 := by simp [Nat.shiftRight_eq_div_pow]
  simp only [crcShift, crcIteration, hbit, decide_eq_true_iff]
  split
  · rw [BitVec.toNat_xor, hhalf]; rfl
  · exact hhalf

theorem crcShift_repeat_toNat (n : Nat) (acc : Half) :
    (Nat.repeat crcShift n acc).toNat = crcIteration^[n] acc.toNat := by
  induction n with
  | zero => rfl
  | succ n ih => rw [Nat.repeat, crcShift_toNat, ih, Function.iterate_succ_apply']

/-- The shift step is linear over XOR: whether the polynomial enters depends on the low bit alone. -/
theorem crcIteration_xor (x y : Nat) :
    crcIteration (x ^^^ y) = crcIteration x ^^^ crcIteration y := by
  have hlow : (x ^^^ y) % 2 = (x + y) % 2 := Nat.xor_mod_two_eq
  simp only [crcIteration, hlow, Nat.xor_div_two]
  rcases Nat.mod_two_eq_zero_or_one x with hx | hx <;>
    rcases Nat.mod_two_eq_zero_or_one y with hy | hy <;>
    simp [Nat.add_mod, hx, hy, Nat.xor_assoc, Nat.xor_comm, Nat.xor_left_comm]

theorem crcIteration_iterate_xor (n x y : Nat) :
    crcIteration^[n] (x ^^^ y) = crcIteration^[n] x ^^^ crcIteration^[n] y := by
  induction n generalizing x y with
  | zero => rfl
  | succ n ih => simp only [Function.iterate_succ_apply, crcIteration_xor, ih]

theorem crcIteration_iterate_zero (n : Nat) : crcIteration^[n] 0 = 0 :=
  Function.iterate_fixed rfl n

/-- Two values meet after some shift steps exactly when those steps shift their difference out. -/
theorem crcIteration_iterate_eq_iff {n x y : Nat} :
    crcIteration^[n] x = crcIteration^[n] y ↔ crcIteration^[n] (x ^^^ y) = 0 := by
  rw [crcIteration_iterate_xor, Nat.xor_eq_zero_iff]

/-- Zeros below a number are shifted out without the polynomial entering. -/
theorem crcIteration_iterate_two_pow_mul (n x : Nat) : crcIteration^[n] (2 ^ n * x) = x := by
  induction n with
  | zero => exact Nat.one_mul x
  | succ n ih =>
    have hstep : crcIteration (2 ^ (n + 1) * x) = 2 ^ n * x := by
      rw [Nat.pow_succ', Nat.mul_assoc, crcIteration, if_neg (by omega)]
      exact Nat.mul_div_cancel_left _ two_pos
    rw [Function.iterate_succ_apply, hstep, ih]

/-- A shift step keeps a 16-bit value within 16 bits and never takes a set bit to nothing: a bit shifted out
sets the top bit, which the halved value does not have. -/
theorem crcIteration_pos_lt {x : Nat} (h : 0 < x ∧ x < 2 ^ 16) :
    0 < crcIteration x ∧ crcIteration x < 2 ^ 16 := by
  rw [crcIteration]
  split
  · have hne : x / 2 ^^^ 0xA001 ≠ 0 := Nat.xor_ne_zero_iff.mpr (by omega)
    exact ⟨Nat.pos_of_ne_zero hne, Nat.xor_lt_two_pow (by omega) (by decide)⟩
  · omega

theorem crcIteration_iterate_ne_zero {x : Nat} (hx : x ≠ 0) (hlt : x < 2 ^ 16) (n : Nat) :
    crcIteration^[n] x ≠ 0 := by
  have hkept : 0 < crcIteration^[n] x ∧ crcIteration^[n] x < 2 ^ 16 := by
    induction n with
    | zero => exact ⟨Nat.pos_of_ne_zero hx, hlt⟩
    | succ n ih => rw [Function.iterate_succ_apply']; exact crcIteration_pos_lt ih
  exact hkept.1.ne'

/-! ## Bytes -/

theorem crcByte_toNat (acc : Half) (b : Byte) :
    (crcByte acc b).toNat = crcIteration^[8] (acc.toNat ^^^ b.toNat) := by
  rw [crcByte, crcShift_repeat_toNat, BitVec.toNat_xor, BitVec.toNat_setWidth_of_le (by decide)]

theorem leValue_cons_succ (b : Byte) (f : List Byte) (n : Nat) :
    ∀ o, leValue (b :: f) (o + 1) n = leValue f o n := by
  induction n with
  | zero => intro o; rfl
  | succ n ih => intro o; rw [leValue, leValue, ih, List.getD_cons_succ]

/-- A byte and the number above it do not overlap. -/
theorem byte_add_mul_eq_xor (b : Byte) (n : Nat) : b.toNat + 256 * n = b.toNat ^^^ 2 ^ 8 * n := by
  apply Nat.eq_of_testBit_eq
  intro i
  rw [Nat.testBit_xor, Nat.add_comm, Nat.testBit_two_pow_mul_add n b.isLt, Nat.testBit_two_pow_mul]
  split
  · next hi => simp [not_le.mpr hi]
  · next hi => simp [not_lt.mp hi, BitVec.testBit_toNat]

/-- The loop of R80 over a byte sequence is eight shift steps per byte on the running value XOR the
sequence's little-endian number: the bits of that number are taken in the order of R32. -/
theorem crcFrom_toNat (b : List Byte) : ∀ acc,
    (crcFrom acc b).toNat = crcIteration^[8 * b.length] (acc.toNat ^^^ leValue b 0 b.length) := by
  induction b with
  | nil => intro acc; exact (Nat.xor_zero _).symm
  | cons x rest ih =>
    intro acc
    have hvalue : leValue (x :: rest) 0 (rest.length + 1) =
        x.toNat ^^^ 2 ^ 8 * leValue rest 0 rest.length := by
      rw [leValue, leValue_cons_succ, List.getD_cons_zero, byte_add_mul_eq_xor]
    calc (crcFrom acc (x :: rest)).toNat
        = crcIteration^[8 * rest.length]
            (crcIteration^[8] (acc.toNat ^^^ x.toNat) ^^^ leValue rest 0 rest.length) := by
          rw [crcFrom_cons, ih, crcByte_toNat]
      _ = crcIteration^[8 * rest.length] (crcIteration^[8]
            ((acc.toNat ^^^ x.toNat) ^^^ 2 ^ 8 * leValue rest 0 rest.length)) := by
          rw [crcIteration_iterate_xor 8 (_ ^^^ _), crcIteration_iterate_two_pow_mul]
      _ = crcIteration^[8 * (x :: rest).length]
            (acc.toNat ^^^ leValue (x :: rest) 0 (x :: rest).length) := by
          rw [List.length_cons, hvalue, Nat.xor_assoc, Nat.mul_succ, Function.iterate_add_apply]

/-- Different running values stay different over the same bytes. -/
theorem crcFrom_injective (b : List Byte) : Function.Injective fun acc => crcFrom acc b := by
  intro acc acc' h
  have hshifted : crcIteration^[8 * b.length] (acc.toNat ^^^ acc'.toNat) = 0 := by
    have hmeet := congrArg BitVec.toNat h
    rw [crcFrom_toNat, crcFrom_toNat, crcIteration_iterate_eq_iff] at hmeet
    rwa [Nat.xor_assoc, Nat.xor_left_comm _ acc'.toNat, Nat.xor_self, Nat.xor_zero] at hmeet
  by_contra hne
  exact crcIteration_iterate_ne_zero (Nat.xor_ne_zero_iff.mpr (hne ∘ BitVec.eq_of_toNat_eq))
    (Nat.xor_lt_two_pow acc.isLt acc'.isLt) _ hshifted

/-! ## The laws of R81 -/

theorem crcFrom_append (acc : Half) (a b : List Byte) :
    crcFrom acc (a ++ b) = crcFrom (crcFrom acc a) b := by
  simp only [crcFrom_eq_foldl, List.foldl_append]

/-- Settles O32. -/
theorem crc16IsIncremental : Obligations.Crc16IsIncremental :=
  fun a b => crcFrom_append crcInit a b

/-- Settles O31: one byte is the loop continued over it, and the operation's effect is its definition. -/
theorem crc16RunsTheShiftLoop : Obligations.Crc16RunsTheShiftLoop := by
  refine ⟨rfl, fun b x => ?byte, fun b s => rfl⟩
  rw [crc16IsIncremental b [x], crcFrom_cons, crcFrom_nil, crcByte_toNat]

theorem leValue_low_high (h : Half) : leValue [h.lowByte, h.highByte] 0 2 = h.toNat := by
  simp [leValue, Half.lowByte, Half.highByte]
  omega

/-- Settles O33: the CRC stored low byte first is the running value itself, so their XOR is zero, and zero
stays zero. -/
theorem crc16SelfCheck : Obligations.Crc16SelfCheck := by
  intro b
  apply BitVec.eq_of_toNat_eq
  rw [crc16IsIncremental, crcFrom_toNat]
  show crcIteration^[16] ((crc16 b).toNat ^^^ leValue [(crc16 b).lowByte, (crc16 b).highByte] 0 2) = 0
  rw [leValue_low_high, Nat.xor_self, crcIteration_iterate_zero]

theorem leValue_threeBytes (u : BitVec 24) : leValue (threeBytes u) 0 3 = u.toNat := by
  simp [leValue, threeBytes]
  omega

theorem crcFrom_threeBytes_toNat (acc : Half) (u : BitVec 24) :
    (crcFrom acc (threeBytes u)).toNat = crcIteration^[24] (acc.toNat ^^^ u.toNat) := by
  rw [crcFrom_toNat, ← leValue_threeBytes]
  rfl

theorem burst_toNat (burst : Half) {k : Nat} (hk : k ≤ 8) :
    (burst.setWidth 24 <<< k).toNat = 2 ^ k * burst.toNat := by
  have hpow : 2 ^ k ≤ 2 ^ 8 := Nat.pow_le_pow_right two_pos hk
  have hfits : burst.toNat * 2 ^ k < 2 ^ 24 :=
    (Nat.mul_le_mul_left _ hpow).trans_lt (by have := burst.isLt; omega)
  rw [BitVec.toNat_shiftLeft, BitVec.toNat_setWidth_of_le (by decide), Nat.shiftLeft_eq,
    Nat.mod_eq_of_lt hfits, Nat.mul_comm]

/-- Settles O34: the first `k` steps shift the burst down to a 16-bit value, which no later step of the
three bytes takes to zero, and different running values stay different over the suffix. -/
theorem crc16DetectsShortBursts : Obligations.Crc16DetectsShortBursts := by
  intro p q u burst k hburst hk h
  rw [List.append_assoc, List.append_assoc, crc16IsIncremental, crc16IsIncremental,
    crcFrom_append, crcFrom_append] at h
  have hmeet := congrArg BitVec.toNat (crcFrom_injective q h)
  rw [crcFrom_threeBytes_toNat, crcFrom_threeBytes_toNat, crcIteration_iterate_eq_iff,
    BitVec.toNat_xor, burst_toNat burst hk] at hmeet
  rw [← Nat.xor_assoc _ u.toNat (2 ^ k * _), xor_xor_cancel_comm, show 24 = 24 - k + k by omega,
    Function.iterate_add_apply, crcIteration_iterate_two_pow_mul] at hmeet
  have hne : burst.toNat ≠ 0 := fun h0 => hburst (BitVec.eq_of_toNat_eq h0)
  exact crcIteration_iterate_ne_zero hne burst.isLt _ hmeet

end Sys2Proof.Machine

/-! # VALIDATE: the CRC check and the stored bytes it reads -/

namespace Sys2Proof.Machine

/-! ## Candidates that reach the CRC check -/

/-- The checks before the CRC check pass: the header bytes are these, and the declared length is the length
held, or for 0x12 at most that (R106 to R108, R112). -/
structure ReachesCrcCheck (buf : List Byte) (fn dlen : Byte) : Prop where
  fn_eq : buf[2]? = some fn
  dlen_eq : buf[5]? = some dlen
  declared_le : frameLen dlen ≤ buf.length
  declared_eq : fn ≠ fnDevinfo → frameLen dlen = buf.length

theorem ReachesCrcCheck.runValidate_eq {buf : List Byte} {fn dlen : Byte}
    (h : ReachesCrcCheck buf fn dlen) (s : State) :
    runValidate buf s = checkCrc buf fn (frameLen dlen)
      (s.setValidator { s.v with fn := fn, dlen := dlen, flen := BitVec.ofNat 16 (frameLen dlen) }) := by
  have hten : 10 ≤ frameLen dlen := by rw [frameLen]; omega
  rw [runValidate_of_header s (by have := h.declared_le; omega) h.fn_eq h.dlen_eq, checkFrame,
    if_neg fun hne => hne.2 (h.declared_eq hne.1), if_neg fun hlt => not_lt.mpr h.declared_le hlt.2]

/-- The verdict of the CRC check is the comparison with the value read (R109). -/
theorem checkCrc_of_read {buf : List Byte} {fn : Byte} {flen : Nat} {s : State} {stored : Half}
    (h : rd16 buf (storedCrcOffset s.cfg fn flen buf.length) = some stored) :
    (checkCrc buf fn flen s).2 =
      if crc16 (slice buf 1 (flen - 4)) = stored then .ok fn else .rejected .crcMismatch := by
  simp only [checkCrc, h]
  rfl

theorem checkCrc_eq_ok {buf : List Byte} {fn fn' : Byte} {flen : Nat} {s : State}
    (h : (checkCrc buf fn flen s).2 = .ok fn') :
    fn = fn' ∧ rd16 buf (storedCrcOffset s.cfg fn flen buf.length) =
      some (crc16 (slice buf 1 (flen - 4))) := by
  cases hread : rd16 buf (storedCrcOffset s.cfg fn flen buf.length) with
  | none => simp only [checkCrc, hread, reduceCtorEq] at h
  | some stored =>
    rw [checkCrc_of_read hread] at h
    split at h
    · next heq => cases h; exact ⟨rfl, heq ▸ rfl⟩
    · cases h

/-- The length checks pass only as R108 and R112 have it, and then the verdict is the CRC check's. -/
theorem checkFrame_eq_ok {buf : List Byte} {fn fn' : Byte} {flen : Nat} {s : State}
    (h : (checkFrame buf fn flen s).2 = .ok fn') :
    flen ≤ buf.length ∧ (fn ≠ fnDevinfo → flen = buf.length) ∧
      (checkCrc buf fn flen s).2 = .ok fn' := by
  unfold checkFrame at h
  split at h
  · cases h
  · next hlength =>
    split at h
    · cases h
    · next hrange =>
      have heq : fn ≠ fnDevinfo → flen = buf.length :=
        fun hfn => by_contra fun hne => hlength ⟨hfn, hne⟩
      refine ⟨?_, heq, h⟩
      by_cases hfn : fn = fnDevinfo
      · exact not_lt.mp fun hlt => hrange ⟨hfn, hlt⟩
      · exact (heq hfn).le

/-- What an accepted candidate has passed: the checks before the CRC check, and the CRC read is the computed
one (R105). -/
theorem runValidate_eq_ok {buf : List Byte} {s : State} {fn : Byte}
    (h : (runValidate buf s).2 = .ok fn) :
    ∃ dlen, ReachesCrcCheck buf fn dlen ∧
      rd16 buf (storedCrcOffset s.cfg fn (frameLen dlen) buf.length) =
        some (crc16 (slice buf 1 (frameLen dlen - 4))) := by
  unfold runValidate at h
  split at h
  · cases h
  · split at h
    · next _ dlen hfn hdlen =>
      obtain ⟨hle, heq, hcrc⟩ := checkFrame_eq_ok h
      obtain ⟨rfl, hread⟩ := checkCrc_eq_ok hcrc
      rw [rd8_eq] at hfn hdlen
      exact ⟨dlen, ⟨hfn, hdlen, hle, heq⟩, hread⟩
    · cases h

/-! ## Changing a stored byte -/

/-- The stored CRC is read behind the header bytes and the covered range (R82, R109). -/
theorem ReachesCrcCheck.le_storedCrcOffset {buf : List Byte} {fn dlen : Byte}
    (h : ReachesCrcCheck buf fn dlen) (cfg : Config) :
    frameLen dlen - 4 ≤ storedCrcOffset cfg fn (frameLen dlen) buf.length := by
  have hle := h.declared_le
  rw [storedCrcOffset]
  split <;> omega

/-- The checks before the CRC check do not look behind the header bytes. -/
theorem ReachesCrcCheck.set {buf : List Byte} {fn dlen : Byte} (h : ReachesCrcCheck buf fn dlen)
    {k : Nat} (hk : 6 ≤ k) (x : Byte) : ReachesCrcCheck (buf.set k x) fn dlen where
  fn_eq := by rw [List.getElem?_set_ne (by omega), h.fn_eq]
  dlen_eq := by rw [List.getElem?_set_ne (by omega), h.dlen_eq]
  declared_le := by rw [List.length_set]; exact h.declared_le
  declared_eq := by rw [List.length_set]; exact h.declared_eq

theorem slice_set_of_le {buf : List Byte} {i j k : Nat} (h : j ≤ k) (x : Byte) :
    slice (buf.set k x) i j = slice buf i j := by
  rw [slice, slice, ← List.drop_take, ← List.drop_take, List.take_set_of_le h]

theorem leValue_of_rd16 {f : List Byte} {o : Nat} {c : Half} (h : rd16 f o = some c) :
    o + 2 ≤ f.length ∧ leValue f o 2 = c.toNat := by
  have hvalue := rd16_toNat f o
  rw [h, Option.map_some] at hvalue
  split at hvalue
  · next hle => exact ⟨hle, (Option.some.inj hvalue).symm⟩
  · cases hvalue

/-- A 16-bit read determines both of its bytes (R31). -/
theorem getD_eq_of_rd16_eq {f f' : List Byte} {o k : Nat} {c : Half} (h : rd16 f o = some c)
    (h' : rd16 f' o = some c) (hk : k = o ∨ k = o + 1) : f.getD k 0#8 = f'.getD k 0#8 := by
  have hvalue : leValue f o 2 = leValue f' o 2 :=
    (leValue_of_rd16 h).2.trans (leValue_of_rd16 h').2.symm
  simp only [leValue] at hvalue
  have hlow := (f.getD o 0#8).isLt
  have hlow' := (f'.getD o 0#8).isLt
  apply BitVec.eq_of_toNat_eq
  rcases hk with rfl | rfl <;> omega

/-- Changing either byte of a 16-bit read changes what is read. -/
theorem rd16_set_ne {f : List Byte} {o k : Nat} {c : Half} {x : Byte} (h : rd16 f o = some c)
    (hk : k = o ∨ k = o + 1) (hx : x ≠ f.getD k 0#8) :
    ∃ c', rd16 (f.set k x) o = some c' ∧ c ≠ c' := by
  obtain ⟨hle, -⟩ := leValue_of_rd16 h
  obtain ⟨c', hc'⟩ : ∃ c', rd16 (f.set k x) o = some c' := by
    rw [← Option.isSome_iff_exists, rd16_isSome, List.length_set]
    exact decide_eq_true hle
  refine ⟨c', hc', fun heq => hx ?_⟩
  rw [getD_eq_of_rd16_eq h (heq ▸ hc') hk, List.getD_eq_getElem?_getD,
    List.getElem?_set_self (by omega), Option.getD_some]

/-- Settles O39: the changed byte lies behind all that is checked or covered, so the same CRC is compared with
another stored value. -/
theorem storedCrcCorruptionIsRejected : Obligations.StoredCrcCorruptionIsRejected := by
  intro s t buf fn x k hexec hok hk hx
  rw [exec_validate] at hexec
  cases hexec
  have hverdict : (runValidate buf s).2 = .ok fn := by simpa [State.returning] using hok
  obtain ⟨dlen, hreaches, hread⟩ := runValidate_eq_ok hverdict
  have hplace : k = storedCrcOffset s.cfg fn (frameLen dlen) buf.length ∨
      k = storedCrcOffset s.cfg fn (frameLen dlen) buf.length + 1 := by
    rwa [List.getD_eq_getElem?_getD, hreaches.dlen_eq] at hk
  have hcovered : frameLen dlen - 4 ≤ k := by
    have := hreaches.le_storedCrcOffset s.cfg
    omega
  have hheader : 6 ≤ k := by
    rw [frameLen] at hcovered
    omega
  obtain ⟨stored, hstored, hne⟩ := rd16_set_ne hread hplace hx
  refine ⟨_, exec_validate (buf.set k x) s, ?_⟩
  have hreaches' := hreaches.set hheader x
  show Returned.validated (runValidate (buf.set k x) s).2 = .validated (.rejected .crcMismatch)
  rw [hreaches'.runValidate_eq, checkCrc_of_read (by rw [List.length_set]; exact hstored),
    slice_set_of_le hcovered, if_neg hne]

end Sys2Proof.Machine

/-! # FEED: the assembled buffer and how it is judged -/

namespace Sys2Proof.Machine

/-! ## The assembled buffer -/

/-- An over-long buffer counts for nothing (R91). -/
theorem assembled_of_overflow {fb : List Byte} (chunk : List Byte) (h : 152 < fb.length) :
    assembled fb chunk = chunk := by
  simp [assembled, h]

/-- A buffer of at most 152 bytes stands before a chunk that does not open with the preamble (R91 to R93). -/
theorem assembled_of_kept {fb chunk : List Byte} (hfb : fb.length ≤ 152)
    (hchunk : chunk.take 2 ≠ [0x7E#8, 0xA1#8]) : assembled fb chunk = fb ++ chunk := by
  rw [assembled, if_neg (not_or.mpr ⟨not_lt.mpr hfb, hchunk⟩)]

theorem assembled_nil (chunk : List Byte) : assembled [] chunk = chunk := by
  simp [assembled]

/-! ## FEED as step 4 on the assembled buffer -/

/-- FEED is step 4 on the assembled buffer, then the record; the old bytes enter through these two only. -/
theorem runFeed_eq_judge (chunk : List Byte) (s : State) : runFeed chunk s =
    (judge { s with fb := assembled s.fb chunk }).1.emitting
      (recordOf s.fb chunk (judge { s with fb := assembled s.fb chunk }).2) := by
  rw [recordOf_eq, ← assemble_eq]
  rfl

/-- Two buffers that assemble to the same bytes give the same buffer, snapshot and outcome. -/
theorem runFeed_congr_of_assembled {s : State} {fb chunk : List Byte}
    (h : assembled s.fb chunk = assembled fb chunk) :
    (runFeed chunk s).fb = (runFeed chunk { s with fb := fb }).fb ∧
      (runFeed chunk s).snap = (runFeed chunk { s with fb := fb }).snap ∧
      (runFeed chunk s).feedOutcome? = (runFeed chunk { s with fb := fb }).feedOutcome? := by
  simp only [runFeed_eq_judge, h]
  exact ⟨rfl, rfl, rfl⟩

/-- The two flags of the record are the tests of steps 1 and 2 on what the FEED began with (R91, R92). -/
theorem runFeed_flags (chunk : List Byte) (s : State) :
    (runFeed chunk s).event.map (·.overflowCleared) = some (decide (152 < s.fb.length)) ∧
      (runFeed chunk s).event.map (·.preambleCleared) =
        some (decide (chunk.take 2 = [0x7E#8, 0xA1#8])) := by
  rw [runFeed_eq_judge]
  exact ⟨rfl, rfl⟩

theorem runFeed_fb_of_not_candidate {s : State} {chunk : List Byte}
    (h : (assembled s.fb chunk).getLast? ≠ some foot1) :
    (runFeed chunk s).fb = assembled s.fb chunk := by
  rw [runFeed_of_not_candidate h]
  rfl

/-! ## Step 4 on a candidate -/

/-- VALIDATE leaves the buffer alone (R105). -/
theorem runValidate_fb (buf : List Byte) (s : State) : (runValidate buf s).1.fb = s.fb := by
  obtain ⟨v, acc, h⟩ := runValidate_frame buf s
  rw [h]

/-- A rejection ends the attempt in VALIDATE's state with the buffer cleared (R95). -/
theorem judge_of_rejected {s : State} {reason : RejectReason} (hc : isCandidate s.fb = true)
    (hv : (runValidate s.fb s).2 = .rejected reason) :
    judge s = ((runValidate s.fb s).1.clearBuffer, .rejected reason) := by
  simp only [judge, if_pos hc, hv, State.endAttempt]

/-- An accepted candidate is decoded whole from VALIDATE's state with the buffer cleared (R96). -/
theorem judge_of_ok {s : State} {fn : Byte} (hc : isCandidate s.fb = true)
    (hv : (runValidate s.fb s).2 = .ok fn) :
    judge s = ((runDecode fn s.fb (runValidate s.fb s).1.clearBuffer).1,
      .accepted fn s.fb (runDecode fn s.fb (runValidate s.fb s).1.clearBuffer).2) := by
  simp only [judge, if_pos hc, hv, State.endAttempt, runValidate_fb]

/-! ## What the decoder does not look at: the outputs -/

theorem runStatus_returning (f : List Byte) (s : State) (r : Returned) :
    runStatus f (s.returning r) = ((runStatus f s).1.returning r, (runStatus f s).2) := by
  unfold runStatus statusBody
  dsimp only [State.setDecoder, State.returning]
  repeat' split
  all_goals rfl

/-- The decoder neither reads nor writes the two outputs. -/
theorem runDecode_returning (fn : Byte) (f : List Byte) (s : State) (r : Returned) :
    runDecode fn f (s.returning r) = ((runDecode fn f s).1.returning r, (runDecode fn f s).2) := by
  unfold runDecode
  split
  · exact runStatus_returning f s r
  · split
    · unfold runDevinfo
      repeat' split
      all_goals rfl
    · rfl

theorem exec_decode (fn : Byte) (f : List Byte) (s : State) : exec (.decode fn f) s =
    .next ((runDecode fn f s).1.returning (.decoded fn (runDecode fn f s).2)) := rfl

/-- Clearing the buffer and writing the outputs commute. -/
theorem returning_clearBuffer (s : State) (r : Returned) :
    { s.returning r with fb := [] } = s.clearBuffer.returning r := rfl

/-- DECODE answers the same whatever the outputs showed before. -/
theorem exec_decode_returning (fn : Byte) (f : List Byte) (s : State) (r : Returned) :
    exec (.decode fn f) (s.returning r) = exec (.decode fn f) s := by
  rw [exec_decode, runDecode_returning, exec_decode]
  rfl

/-! ## The statements about FEED -/

/-- Settles O21: the length test comes before the four steps. -/
theorem feedBeyondChunkMaxIsRefused : Obligations.FeedBeyondChunkMaxIsRefused :=
  fun _ _ h => if_neg (not_le.mpr h)

/-- Settles O16: with no candidate, FEED ends in its first way. -/
theorem feedWithoutCandidateKeepsTheBytes : Obligations.FeedWithoutCandidateKeepsTheBytes := by
  intro s chunk hmax hlast
  rw [exec_feed_of_le hmax, runFeed_of_not_candidate hlast]
  rfl

/-- Settles O17: step 4 runs the two units VALIDATE and DECODE run; issued on their own they write the outputs
besides, which the decoder does not see and FEED's record replaces. -/
theorem feedJudgesACandidate : Obligations.FeedJudgesACandidate := by
  intro s v chunk hmax hlast hvalidate
  have hc : isCandidate (assembled s.fb chunk) = true := by
    rw [isCandidate, hlast]
    rfl
  rw [exec_validate] at hvalidate
  cases hvalidate
  rw [exec_feed_of_le hmax, runFeed_eq_judge]
  refine ⟨fun reason hrejected => ?_, fun fn w o hok hdecode hdecoded => ?_⟩
  · have hverdict := Returned.validated.inj hrejected
    rw [judge_of_rejected hc hverdict]
    rfl
  · have hverdict := Returned.validated.inj hok
    rw [judge_of_ok hc hverdict]
    rw [returning_clearBuffer, exec_decode_returning, exec_decode] at hdecode
    cases hdecode
    obtain ⟨-, rfl⟩ := Returned.decoded.inj hdecoded
    rfl

/-- Settles O19: an over-long buffer assembles with the chunk as an empty one does; a shorter one is kept. -/
theorem overflowClearsBeforeTheChunk : Obligations.OverflowClearsBeforeTheChunk := by
  intro s chunk hmax
  refine ⟨runFeed chunk s, exec_feed_of_le hmax, (runFeed_flags chunk s).1, fun hover => ?_,
    fun hover hlast => ?_, fun hkept hchunk hlast => ?_⟩
  · exact ⟨_, exec_feed_of_le hmax, runFeed_congr_of_assembled
      ((assembled_of_overflow chunk hover).trans (assembled_nil chunk).symm)⟩
  · rw [← assembled_of_overflow chunk hover] at hlast
    rw [runFeed_fb_of_not_candidate hlast, assembled_of_overflow chunk hover]
  · rw [← assembled_of_kept hkept hchunk] at hlast ⊢
    exact runFeed_fb_of_not_candidate hlast

/-- Settles O20: behind the preamble, any two buffers assemble to the chunk alone. -/
theorem preambleHeadDiscardsStaleBytes : Obligations.PreambleHeadDiscardsStaleBytes := by
  intro s stale chunk hmax hpreamble
  obtain ⟨hfb, hsnap, houtcome⟩ := runFeed_congr_of_assembled (s := s)
    ((assembled_of_preamble s.fb hpreamble).trans (assembled_of_preamble stale hpreamble).symm)
  refine ⟨_, _, exec_feed_of_le hmax, exec_feed_of_le hmax, hfb, hsnap, houtcome, ?_⟩
  rw [(runFeed_flags chunk s).2, decide_eq_true hpreamble]

end Sys2Proof.Machine

/-! # VALIDATE: every way it ends, and the bytes its checks do not look at -/

namespace Sys2Proof.Machine

/-! ## The scratch VALIDATE writes -/

/-- The registers written when the header bytes are read (R106, R107). -/
def State.withHeader (s : State) (fn dlen : Byte) : State :=
  s.setValidator { s.v with fn := fn, dlen := dlen, flen := BitVec.ofNat 16 (frameLen dlen) }

/-- The registers written by a CRC check that finds its stored value (R109, R13). -/
def State.withCrcCheck (s : State) (computed stored : Half) : State :=
  (s.setCrcAcc computed).setValidator { s.v with crcComputed := computed, crcStored := stored }

theorem ten_le_frameLen (dlen : Byte) : 10 ≤ frameLen dlen := by
  rw [frameLen]
  omega

/-- Sixteen bits hold every frame length (R107). -/
theorem flen_toNat (dlen : Byte) : (BitVec.ofNat 16 (frameLen dlen)).toNat = frameLen dlen := by
  have := dlen.isLt
  rw [BitVec.toNat_ofNat, Nat.mod_eq_of_lt (by rw [frameLen]; omega)]

/-- The header bytes as the statements spell them (R106, R107). -/
theorem header_getD {buf : List Byte} {fn dlen : Byte} (hfn : buf[2]? = some fn)
    (hdlen : buf[5]? = some dlen) :
    buf.getD 2 0#8 = fn ∧ 6 + (buf.getD 5 0#8).toNat + 4 = frameLen dlen := by
  rw [List.getD_eq_getElem?_getD, List.getD_eq_getElem?_getD, hfn, hdlen]
  exact ⟨rfl, rfl⟩

/-- What the registers of R106 and R107 hold once the header bytes are read. -/
theorem withHeader_v {buf : List Byte} {fn dlen : Byte} (hfn : buf[2]? = some fn)
    (hdlen : buf[5]? = some dlen) (s : State) :
    (s.withHeader fn dlen).v.fn = buf.getD 2 0#8 ∧ (s.withHeader fn dlen).v.dlen = buf.getD 5 0#8 ∧
      (s.withHeader fn dlen).v.flen.toNat = 6 + (buf.getD 5 0#8).toNat + 4 := by
  rw [List.getD_eq_getElem?_getD, List.getD_eq_getElem?_getD, hfn, hdlen]
  exact ⟨rfl, rfl, flen_toNat dlen⟩

/-! ## The checks one by one -/

theorem runValidate_of_short {buf : List Byte} (s : State) (h : buf.length < 6) :
    runValidate buf s = (s, .rejected .malformed) :=
  if_pos h

/-- A device-info candidate that ends before its declared length is malformed (R112). -/
theorem checkFrame_of_missing_bytes {buf : List Byte} {fn : Byte} {flen : Nat} (s : State)
    (hfn : fn = fnDevinfo) (hlen : buf.length < flen) :
    checkFrame buf fn flen s = (s, .rejected .malformed) := by
  rw [checkFrame, if_neg fun h => h.1 hfn, if_pos ⟨hfn, hlen⟩]

/-- The verdict of the CRC check (R109). -/
def crcVerdict (fn : Byte) (computed stored : Half) : ValidateResult :=
  if computed = stored then .ok fn else .rejected .crcMismatch

theorem exists_crcVerdict_eq_ok_iff {fn : Byte} {computed stored : Half} :
    (∃ fn', Returned.validated (crcVerdict fn computed stored) = .validated (.ok fn')) ↔
      stored = computed := by
  unfold crcVerdict
  split
  · next heq => exact iff_of_true ⟨fn, rfl⟩ heq.symm
  · next hne => exact iff_of_false nofun (Ne.symm hne)

/-- The covered range as the statements spell it (R109). -/
theorem slice_eq_drop_take (buf : List Byte) (i j : Nat) : slice buf i j = (buf.take j).drop i :=
  List.drop_take.symm

/-- The CRC check where its stored value exists (R109). -/
theorem checkCrc_eq {buf : List Byte} {fn : Byte} {flen : Nat} {s : State} {stored : Half}
    (h : rd16 buf (storedCrcOffset s.cfg fn flen buf.length) = some stored) :
    checkCrc buf fn flen s = (s.withCrcCheck (crc16 (slice buf 1 (flen - 4))) stored,
      crcVerdict fn (crc16 (slice buf 1 (flen - 4))) stored) := by
  simp only [checkCrc, h]
  rfl

theorem ReachesCrcCheck.six_le_length {buf : List Byte} {fn dlen : Byte}
    (h : ReachesCrcCheck buf fn dlen) : 6 ≤ buf.length := by
  have := ten_le_frameLen dlen
  have := h.declared_le
  omega

/-- A candidate that reaches the CRC check has both bytes the check reads, at either place of D8. -/
theorem ReachesCrcCheck.exists_stored {buf : List Byte} {fn dlen : Byte}
    (h : ReachesCrcCheck buf fn dlen) (cfg : Config) :
    ∃ stored, rd16 buf (storedCrcOffset cfg fn (frameLen dlen) buf.length) = some stored := by
  have hten := ten_le_frameLen dlen
  have hle := h.declared_le
  rw [← Option.isSome_iff_exists, rd16_isSome, storedCrcOffset]
  exact decide_eq_true (by split <;> omega)

/-! ## Every way VALIDATE ends -/

/-- What VALIDATE may answer from state `s`, check by check in the order of R114; an empty candidate is a
short one (log 28). -/
inductive Validation (buf : List Byte) (s : State) : State × ValidateResult → Prop
  | short (hlen : buf.length < 6) : Validation buf s (s, .rejected .malformed)
  | wrongLength (fn dlen : Byte) (hlen : 6 ≤ buf.length) (hfn : buf[2]? = some fn)
      (hdlen : buf[5]? = some dlen) (hcode : fn ≠ fnDevinfo) (hdeclared : frameLen dlen ≠ buf.length) :
      Validation buf s (s.withHeader fn dlen, .rejected .lengthMismatch)
  | missingBytes (fn dlen : Byte) (hlen : 6 ≤ buf.length) (hfn : buf[2]? = some fn)
      (hdlen : buf[5]? = some dlen) (hcode : fn = fnDevinfo) (hdeclared : buf.length < frameLen dlen) :
      Validation buf s (s.withHeader fn dlen, .rejected .malformed)
  | crcChecked (fn dlen : Byte) (stored : Half) (hreaches : ReachesCrcCheck buf fn dlen)
      (hread : rd16 buf (storedCrcOffset s.cfg fn (frameLen dlen) buf.length) = some stored) :
      Validation buf s
        ((s.withHeader fn dlen).withCrcCheck (crc16 (slice buf 1 (frameLen dlen - 4))) stored,
          crcVerdict fn (crc16 (slice buf 1 (frameLen dlen - 4))) stored)

theorem ReachesCrcCheck.validation {buf : List Byte} {fn dlen : Byte} (h : ReachesCrcCheck buf fn dlen)
    (s : State) : Validation buf s (runValidate buf s) := by
  obtain ⟨stored, hread⟩ := h.exists_stored s.cfg
  have hends : runValidate buf s = _ :=
    (h.runValidate_eq s).trans (checkCrc_eq (s := s.withHeader fn dlen) hread)
  rw [hends]
  exact .crcChecked fn dlen stored h hread

/-- Whatever VALIDATE answers is one of these ends. -/
theorem runValidate_validation (buf : List Byte) (s : State) : Validation buf s (runValidate buf s) := by
  by_cases hshort : buf.length < 6
  · rw [runValidate_of_short s hshort]
    exact .short hshort
  have hlen : 6 ≤ buf.length := not_lt.mp hshort
  obtain ⟨fn, hfn⟩ : ∃ fn, buf[2]? = some fn := ⟨_, List.getElem?_eq_getElem (by omega)⟩
  obtain ⟨dlen, hdlen⟩ : ∃ dlen, buf[5]? = some dlen := ⟨_, List.getElem?_eq_getElem (by omega)⟩
  by_cases hcode : fn = fnDevinfo
  · by_cases hdeclared : buf.length < frameLen dlen
    · rw [runValidate_of_header s hlen hfn hdlen, checkFrame_of_missing_bytes _ hcode hdeclared]
      exact .missingBytes fn dlen hlen hfn hdlen hcode hdeclared
    · exact ReachesCrcCheck.validation ⟨hfn, hdlen, not_lt.mp hdeclared, fun h => absurd hcode h⟩ s
  · by_cases hdeclared : frameLen dlen = buf.length
    · exact ReachesCrcCheck.validation ⟨hfn, hdlen, hdeclared.le, fun _ => hdeclared⟩ s
    · rw [runValidate_of_header s hlen hfn hdlen, checkFrame_of_wrong_length _ hcode hdeclared]
      exact .wrongLength fn dlen hlen hfn hdlen hcode hdeclared

/-! ## What the checks do not look at -/

theorem slice_congr {f f' : List Byte} {i j : Nat} (h : ∀ k, i ≤ k → k < j → f[k]? = f'[k]?) :
    slice f i j = slice f' i j := by
  apply List.ext_getElem?
  intro k
  rw [slice, slice, List.getElem?_take, List.getElem?_take, List.getElem?_drop, List.getElem?_drop]
  split
  · exact h (i + k) (by omega) (by omega)
  · rfl

theorem rd16_congr {f f' : List Byte} {o : Nat} (h : ∀ k, k < 2 → f[o + k]? = f'[o + k]?) :
    rd16 f o = rd16 f' o := by
  rw [rd16, rd16, memRead_congr h]

theorem storedCrcOffset_of_declared {cfg : Config} (h : cfg.devinfoCrcAt = .declared) (fn : Byte)
    (flen n : Nat) : storedCrcOffset cfg fn flen n = flen - 4 := by
  rw [storedCrcOffset, h, if_neg fun hactual => nomatch hactual.2]

/-- With the CRC at its declared place, the CRC check looks at the covered range and the stored bytes behind
it: not at offset 0, not at the footer's place, not at the length (R113, R189). -/
theorem checkCrc_congr {buf buf' : List Byte} {flen : Nat} {s : State} (fn : Byte)
    (hcfg : s.cfg.devinfoCrcAt = .declared) (hflen : 10 ≤ flen)
    (h : ∀ k, 1 ≤ k → k < flen - 2 → buf[k]? = buf'[k]?) :
    checkCrc buf fn flen s = checkCrc buf' fn flen s := by
  have hcovered : slice buf 1 (flen - 4) = slice buf' 1 (flen - 4) :=
    slice_congr fun k hlow hhigh => h k hlow (by omega)
  have hstored : rd16 buf (flen - 4) = rd16 buf' (flen - 4) :=
    rd16_congr fun k hk => h (flen - 4 + k) (by omega) (by omega)
  simp only [checkCrc, storedCrcOffset_of_declared hcfg, hcovered, hstored]

/-- Two candidates of one length go through the length checks alike. -/
theorem checkFrame_congr {buf buf' : List Byte} {flen : Nat} {s : State} (fn : Byte)
    (hcfg : s.cfg.devinfoCrcAt = .declared) (hlen : buf.length = buf'.length) (hflen : 10 ≤ flen)
    (h : ∀ k, 1 ≤ k → k < flen - 2 → buf[k]? = buf'[k]?) :
    checkFrame buf fn flen s = checkFrame buf' fn flen s := by
  rw [checkFrame, checkFrame, hlen, checkCrc_congr fn hcfg hflen h]

/-- The checks before the CRC check of a 0x12 candidate still pass with bytes after it (R112). -/
theorem ReachesCrcCheck.append {buf : List Byte} {dlen : Byte}
    (h : ReachesCrcCheck buf fnDevinfo dlen) (extra : List Byte) :
    ReachesCrcCheck (buf ++ extra) fnDevinfo dlen := by
  have hlen := h.six_le_length
  constructor
  · rw [List.getElem?_append_left (by omega), h.fn_eq]
  · rw [List.getElem?_append_left (by omega), h.dlen_eq]
  · exact h.declared_le.trans (by simp)
  · exact fun hne => absurd rfl hne

/-! ## The statements about VALIDATE -/

/-- Settles O35: each way VALIDATE ends is the branch of the chain its checks lead to. -/
theorem validateReportsFirstFailingCheck : Obligations.ValidateReportsFirstFailingCheck := by
  intro buf s fn flen crcAt verdict
  obtain ⟨v, acc, hframe⟩ := runValidate_frame buf s
  suffices hverdict : (runValidate buf s).2 = verdict from
    ⟨v, acc, by rw [exec_validate, hframe, hverdict, State.returning]⟩
  have hends := runValidate_validation buf s
  generalize runValidate buf s = p at hends ⊢
  cases hends with
  | short hlen => exact (if_pos hlen).symm
  | wrongLength fn' dlen hlen hfn hdlen hcode hdeclared =>
    have hheader : fn = fn' ∧ flen = frameLen dlen := header_getD hfn hdlen
    simp only [verdict, hheader]
    rw [if_neg (not_lt.mpr hlen), if_pos ⟨hcode, hdeclared⟩]
  | missingBytes fn' dlen hlen hfn hdlen hcode hdeclared =>
    have hheader : fn = fn' ∧ flen = frameLen dlen := header_getD hfn hdlen
    simp only [verdict, hheader]
    rw [if_neg (not_lt.mpr hlen), if_neg fun h => h.1 hcode, if_pos ⟨hcode, hdeclared⟩]
  | crcChecked fn' dlen stored hreaches hread =>
    have hheader : fn = fn' ∧ flen = frameLen dlen := header_getD hreaches.fn_eq hreaches.dlen_eq
    have hcrcAt : crcAt = storedCrcOffset s.cfg fn' (frameLen dlen) buf.length := by
      simp only [crcAt, hheader]
      rfl
    simp only [verdict, hheader, hcrcAt]
    rw [if_neg (not_lt.mpr hreaches.six_le_length), if_neg fun h => h.2 (hreaches.declared_eq h.1),
      if_neg fun h => not_lt.mpr hreaches.declared_le h.2, (leValue_of_rd16 hread).2, crcVerdict,
      slice_eq_drop_take]
    simp only [BitVec.toNat_inj]

/-- Settles O36: a candidate of six bytes has its header bytes written, and the CRC check alone ends in one of
the two verdicts and writes the CRC registers. -/
theorem validateWritesItsScratch : Obligations.ValidateWritesItsScratch := by
  intro buf s hsix flen
  refine ⟨_, exec_validate buf s, ?_⟩
  have hends := runValidate_validation buf s
  generalize runValidate buf s = p at hends
  cases hends with
  | short hlen => exact absurd hlen (not_lt.mpr hsix)
  | wrongLength fn dlen hlen hfn hdlen =>
    obtain ⟨hfn', hdlen', hflen⟩ := withHeader_v hfn hdlen s
    exact ⟨hfn', hdlen', hflen, nofun⟩
  | missingBytes fn dlen hlen hfn hdlen =>
    obtain ⟨hfn', hdlen', hflen⟩ := withHeader_v hfn hdlen s
    exact ⟨hfn', hdlen', hflen, nofun⟩
  | crcChecked fn dlen stored hreaches =>
    obtain ⟨hfn', hdlen', hflen⟩ := withHeader_v hreaches.fn_eq hreaches.dlen_eq s
    have hcovered : slice buf 1 (frameLen dlen - 4) = (buf.take (flen - 4)).drop 1 := by
      rw [slice_eq_drop_take, ← (header_getD hreaches.fn_eq hreaches.dlen_eq).2]
    exact ⟨hfn', hdlen', hflen, fun _ =>
      ⟨congrArg crc16 hcovered, rfl, exists_crcVerdict_eq_ok_iff.symm⟩⟩

/-- Settles O38: the header bytes are among those that agree, the length checks see the length alone, and the
CRC check ends before the footer's place. -/
theorem validateIgnoresUncheckedBytes : Obligations.ValidateIgnoresUncheckedBytes := by
  intro buf buf' s t hcfg hlen hagree hexec
  suffices hsame : runValidate buf s = runValidate buf' s by
    rw [← hexec, exec_validate, exec_validate, hsame]
  by_cases hshort : buf.length < 6
  · rw [runValidate_of_short s hshort, runValidate_of_short s (hlen ▸ hshort)]
  have hfn : buf[2]? = some buf[2] := List.getElem?_eq_getElem (by omega)
  have hdlen : buf[5]? = some buf[5] := List.getElem?_eq_getElem (by omega)
  rw [List.getD_eq_getElem?_getD, hdlen, Option.getD_some] at hagree
  have hfn' : buf'[2]? = some buf[2] := by rw [← hagree 2 (by omega) (by omega), hfn]
  have hdlen' : buf'[5]? = some buf[5] := by rw [← hagree 5 (by omega) (by omega), hdlen]
  rw [runValidate_of_header s (by omega) hfn hdlen, runValidate_of_header s (by omega) hfn' hdlen']
  exact checkFrame_congr _ hcfg hlen (ten_le_frameLen _) hagree

/-- Settles O40: the checks before the CRC check still pass, and the CRC check sees none of the added bytes. -/
theorem devinfoExtraBytesAreAccepted : Obligations.DevinfoExtraBytesAreAccepted := by
  intro s t buf extra hcfg hexec hok
  rw [exec_validate] at hexec
  cases hexec
  obtain ⟨dlen, hreaches : ReachesCrcCheck buf fnDevinfo dlen, -⟩ :=
    runValidate_eq_ok (Returned.validated.inj hok)
  have hagree : ∀ k, 1 ≤ k → k < frameLen dlen - 2 → buf[k]? = (buf ++ extra)[k]? := fun k _ hk =>
    (List.getElem?_append_left (by have := hreaches.declared_le; omega)).symm
  have hsame : runValidate buf s = runValidate (buf ++ extra) s := by
    rw [hreaches.runValidate_eq, (hreaches.append extra).runValidate_eq]
    exact checkCrc_congr fnDevinfo hcfg (ten_le_frameLen dlen) hagree
  rw [exec_validate, hsame]

end Sys2Proof.Machine

/-! # The decoder: the dispatch, STATUS on every frame, the texts it renders -/

namespace Sys2Proof.Machine

/-! ## The dispatch on the function code -/

theorem runDecode_status (f : List Byte) (s : State) : runDecode 0x11#8 f s = runStatus f s := rfl

theorem runDecode_devinfo (f : List Byte) (s : State) : runDecode 0x12#8 f s = runDevinfo f s := rfl

theorem exec_devinfo (f : List Byte) (s : State) :
    exec (.devinfo f) s = .next (finishDecode 0x12#8 (runDevinfo f s)) := rfl

theorem runDecode_of_unhandled {fn : Byte} (f : List Byte) (s : State) (hstatus : fn ≠ 0x11#8)
    (hdevinfo : fn ≠ 0x12#8) : runDecode fn f s = (s, .unhandled) :=
  (if_neg hstatus).trans (if_neg hdevinfo)

/-- Settles O41: the operations named run the routines DECODE dispatches to. -/
theorem decodeDispatchesOnFunctionCode : Obligations.DecodeDispatchesOnFunctionCode := by
  intro s f
  refine ⟨?status, ?devinfo, fun fn hstatus hdevinfo => ?unhandled⟩
  case status => rw [exec_decode, runDecode_status, exec_status, finishDecode]
  case devinfo => rw [exec_decode, runDecode_devinfo, exec_devinfo, finishDecode]
  case unhandled => rw [exec_decode, runDecode_of_unhandled f s hstatus hdevinfo, State.returning]

/-! ## STATUS, one equation per way it ends -/

/-- `D.*` once the header bytes are read and the block is measured (R15, R123, R128). -/
def statusScratch (st t c : Byte) : DecoderScratch where
  st := st
  t := t
  c := c
  off := BitVec.ofNat 16 (blockOffset t c)
  base := BitVec.ofNat 16 (fieldBase t c)

/-- The frame has its declared length, and these header bytes (R122, R123). -/
structure StatusHeader (f : List Byte) (st t c : Byte) : Prop where
  length_eq : declaredLength f = some f.length
  st_eq : f[7]? = some st
  t_eq : f[8]? = some t
  c_eq : f[9]? = some c

/-- A frame of its declared length has at least ten bytes, and so its header bytes. -/
theorem exists_statusHeader {f : List Byte} (h : declaredLength f = some f.length) :
    ∃ st t c, StatusHeader f st t c := by
  have hten : 10 ≤ f.length := by
    obtain ⟨dlen, -, hdlen⟩ := Option.map_eq_some_iff.mp h
    omega
  exact ⟨f[7], f[8], f[9], h, List.getElem?_eq_getElem _, List.getElem?_eq_getElem _,
    List.getElem?_eq_getElem _⟩

/-- STATUS drops a frame of another length than it declares (R122). -/
theorem runStatus_of_wrong_length {f : List Byte} (s : State)
    (h : declaredLength f ≠ some f.length) : runStatus f s = (s, .statusDropped) :=
  if_neg fun hholds => h ((statusLengthHolds_iff f).mp hholds)

/-- With its header bytes read, the counts decide whether STATUS goes on (R123, R124). -/
theorem StatusHeader.runStatus_eq {f : List Byte} {st t c : Byte} (h : StatusHeader f st t c)
    (s : State) : runStatus f s =
      if cellMax < c.toNat ∨ tempMax < t.toNat then
        (s.setDecoder { s.d with st := st, t := t, c := c }, .malformed)
      else statusBody f st t c (s.setDecoder { s.d with st := st, t := t, c := c }) := by
  simp only [runStatus, (statusLengthHolds_iff f).mpr h.length_eq, rd8_eq, h.st_eq, h.t_eq, h.c_eq,
    if_true]

section
variable {f : List Byte} {st t c : Byte} {s : State}

theorem StatusHeader.runStatus_of_refused_counts (h : StatusHeader f st t c)
    (hcounts : cellMax < c.toNat ∨ tempMax < t.toNat) :
    runStatus f s = (s.setDecoder { s.d with st := st, t := t, c := c }, .malformed) := by
  rw [h.runStatus_eq, if_pos hcounts]

theorem StatusHeader.runStatus_of_short (h : StatusHeader f st t c)
    (hcounts : ¬(cellMax < c.toNat ∨ tempMax < t.toNat))
    (hshort : f.length < fieldBase t c + s.cfg.layout.size) :
    runStatus f s = (s.setDecoder (statusScratch st t c), .malformed) := by
  rw [h.runStatus_eq, if_neg hcounts]
  exact if_pos hshort

/-- STATUS commits the group it has read (R121, R134). -/
theorem StatusHeader.runStatus_of_group {g : StatusGroup} (h : StatusHeader f st t c)
    (hcounts : ¬(cellMax < c.toNat ∨ tempMax < t.toNat))
    (hfits : ¬f.length < fieldBase t c + s.cfg.layout.size)
    (hg : readStatusGroup s.cfg f st t c = some g) :
    runStatus f s = ((s.setDecoder (statusScratch st t c)).commitStatus g, .statusUpdated) := by
  rw [h.runStatus_eq, if_neg hcounts]
  simp only [statusBody, State.setDecoder_cfg, if_neg hfits, hg]
  rfl

/-- A layout that does not conform may place a field outside the frame (log 20). -/
theorem StatusHeader.runStatus_of_no_group (h : StatusHeader f st t c)
    (hcounts : ¬(cellMax < c.toNat ∨ tempMax < t.toNat))
    (hfits : ¬f.length < fieldBase t c + s.cfg.layout.size)
    (hg : readStatusGroup s.cfg f st t c = none) :
    runStatus f s = (s.setDecoder (statusScratch st t c), .malformed) := by
  rw [h.runStatus_eq, if_neg hcounts]
  simp only [statusBody, State.setDecoder_cfg, if_neg hfits, hg]
  rfl

end

/-- Settles O49: the length re-check comes before anything is written. -/
theorem statusDropsAWrongLength : Obligations.StatusDropsAWrongLength := by
  intro s f h
  rw [exec_status, runStatus_of_wrong_length s h]
  rfl

/-- Settles O50: refused counts leave the header bytes in the scratch, a short frame the offsets besides. -/
theorem statusRefusesCountsAndShortFrames : Obligations.StatusRefusesCountsAndShortFrames := by
  intro s f t c hlen ht hc hground
  obtain ⟨st, t', c', h⟩ := exists_statusHeader hlen
  cases h.t_eq.symm.trans ht
  cases h.c_eq.symm.trans hc
  by_cases hcounts : cellMax < c.toNat ∨ tempMax < t.toNat
  · exact ⟨_, by rw [exec_status, h.runStatus_of_refused_counts hcounts]; rfl⟩
  · have hshort : f.length < fieldBase t c + s.cfg.layout.size :=
      (or_assoc.mpr hground).resolve_left hcounts
    exact ⟨_, by rw [exec_status, h.runStatus_of_short hcounts hshort]; rfl⟩

/-! ## Decoding twice -/

/-- STATUS ends the same way again from the state it left, since it ends by the frame and the parameters. -/
theorem runStatus_runStatus (f : List Byte) (s : State) :
    runStatus f (runStatus f s).1 = runStatus f s := by
  by_cases hlen : declaredLength f = some f.length
  case neg => rw [runStatus_of_wrong_length s hlen, runStatus_of_wrong_length s hlen]
  obtain ⟨st, t, c, h⟩ := exists_statusHeader hlen
  by_cases hcounts : cellMax < c.toNat ∨ tempMax < t.toNat
  case pos =>
    rw [h.runStatus_of_refused_counts (s := s) hcounts]
    exact h.runStatus_of_refused_counts hcounts
  by_cases hshort : f.length < fieldBase t c + s.cfg.layout.size
  case pos =>
    rw [h.runStatus_of_short hcounts hshort]
    exact h.runStatus_of_short hcounts hshort
  cases hg : readStatusGroup s.cfg f st t c with
  | none =>
    rw [h.runStatus_of_no_group hcounts hshort hg]
    exact h.runStatus_of_no_group hcounts hshort hg
  | some g =>
    rw [h.runStatus_of_group hcounts hshort hg]
    exact h.runStatus_of_group hcounts hshort hg

/-- What DEVINFO commits, if anything, depends on the frame alone (R150). -/
theorem runDevinfo_of_frame (f : List Byte) :
    (∃ g, ∀ s, runDevinfo f s = (s.commitDevinfo g, .devInfoUpdated)) ∨
      ∀ s, runDevinfo f s = (s, .malformed) := by
  unfold runDevinfo
  split
  · exact .inr fun _ => rfl
  · split
    · exact .inl ⟨_, fun _ => rfl⟩
    · exact .inr fun _ => rfl

theorem runDevinfo_runDevinfo (f : List Byte) (s : State) :
    runDevinfo f (runDevinfo f s).1 = runDevinfo f s := by
  obtain ⟨g, hg⟩ | hmalformed := runDevinfo_of_frame f
  · rw [hg, hg]
    rfl
  · rw [hmalformed, hmalformed]

theorem runDecode_runDecode (fn : Byte) (f : List Byte) (s : State) :
    runDecode fn f (runDecode fn f s).1 = runDecode fn f s := by
  by_cases hstatus : fn = 0x11#8
  · subst hstatus
    exact runStatus_runStatus f s
  by_cases hdevinfo : fn = 0x12#8
  · subst hdevinfo
    exact runDevinfo_runDevinfo f s
  simp only [runDecode_of_unhandled f _ hstatus hdevinfo]

/-- Settles O42: the decoder sees neither what it wrote nor the outputs of its first run. -/
theorem decodingTwiceIsDecodingOnce : Obligations.DecodingTwiceIsDecodingOnce := by
  intro s t fn f h
  rw [exec_decode] at h
  cases h
  rw [exec_decode_returning, exec_decode, runDecode_runDecode]

/-! ## FEED and the status re-check -/

/-- What an accepting FEED reports: the assembled candidate, which validates under the reported code, and
the outcome of its decoding (R94, R96). -/
theorem accepted_of_runFeed {s : State} {chunk f : List Byte} {fn : Byte} {o : DecodeOutcome}
    (h : (runFeed chunk s).feedOutcome? = some (.accepted fn f o)) :
    isCandidate f = true ∧ ∃ u w, (runValidate f u).2 = .ok fn ∧ (runDecode fn f w).2 = o := by
  rw [runFeed_eq_judge] at h
  have houtcome : (judge { s with fb := assembled s.fb chunk }).2 = .accepted fn f o :=
    Option.some.inj h
  obtain ⟨-, hj⟩ | ⟨hc, v, acc, ⟨reason, -, hj⟩ | ⟨fn', hok, hj⟩⟩ :=
    judge_cases { s with fb := assembled s.fb chunk }
  · cases (congrArg Prod.snd hj).symm.trans houtcome
  · cases (congrArg Prod.snd hj).symm.trans houtcome
  · cases (congrArg Prod.snd hj).symm.trans houtcome
    exact ⟨hc, _, _, hok, rfl⟩

theorem ReachesCrcCheck.declaredLength_eq {buf : List Byte} {fn dlen : Byte}
    (h : ReachesCrcCheck buf fn dlen) (hfn : fn ≠ fnDevinfo) :
    declaredLength buf = some buf.length := by
  rw [declaredLength, h.dlen_eq, Option.map_some, ← h.declared_eq hfn, frameLen]

/-- Only STATUS drops a frame, and only one of another length than it declares (R122, R152). -/
theorem runDecode_ne_statusDropped {fn : Byte} {f : List Byte} (s : State)
    (h : fn ≠ 0x12#8 → declaredLength f = some f.length) :
    (runDecode fn f s).2 ≠ .statusDropped := by
  by_cases hstatus : fn = 0x11#8
  · subst hstatus
    have hholds := (statusLengthHolds_iff f).mpr (h (by decide))
    rw [runDecode_status]
    obtain ⟨d, g, t, c, hrun, -⟩ | ⟨d, hrun, -⟩ | ⟨-, hfails⟩ := runStatus_cases f s
    · rw [hrun]; nofun
    · rw [hrun]; nofun
    · cases hholds.symm.trans hfails
  by_cases hdevinfo : fn = 0x12#8
  · subst hdevinfo
    rw [runDecode_devinfo]
    obtain ⟨g, hrun, -⟩ | ⟨hrun, -⟩ := runDevinfo_cases f s <;> rw [hrun] <;> nofun
  rw [runDecode_of_unhandled f s hstatus hdevinfo]
  nofun

/-- Settles O24: the frame has passed VALIDATE, whose length check is the one STATUS repeats. -/
theorem feedNeverDropsAStatusFrame : Obligations.FeedNeverDropsAStatusFrame := by
  intro s t chunk f fn o hexec houtcome
  obtain ⟨-, rfl⟩ := execFeed_eq_next.mp hexec
  obtain ⟨hcandidate, u, w, hok, rfl⟩ := accepted_of_runFeed houtcome
  obtain ⟨dlen, hreaches, -⟩ := runValidate_eq_ok hok
  exact ⟨hreaches.fn_eq, beq_iff_eq.mp hcandidate, hreaches.declaredLength_eq,
    runDecode_ne_statusDropped w hreaches.declaredLength_eq⟩

/-! ## The group of an admitted frame -/

/-- Settles O43: an admitted frame meets the conditions under which STATUS commits the group it has read. -/
theorem statusCommitsAnAdmittedFrame : Obligations.StatusCommitsAnAdmittedFrame := by
  intro s f st t c hcfg hadmitted
  obtain ⟨g, hg⟩ := readStatusGroup_of_admitted hcfg hadmitted
  obtain ⟨hlen, hst, ht, hc, hcells, htemps, hsize⟩ := hadmitted
  have hheader : StatusHeader f st t c := ⟨hlen, hst, ht, hc⟩
  have hcounts : ¬(cellMax < c.toNat ∨ tempMax < t.toNat) :=
    not_or.mpr ⟨not_lt.mpr hcells, not_lt.mpr htemps⟩
  have hread := readStatusGroup_readFrom hg
  refine ⟨g, ?_, hread.batteryStatus, hread.tempCount, hread.cellCount,
    readStatusGroup_consistent hg hcells htemps⟩
  rw [exec_status, hheader.runStatus_of_group hcounts (not_lt.mpr hsize) hg]
  rfl

/-- The values read are the little-endian words of the frame, two bytes apart (R125, R126). -/
theorem readHalves_toNat {f : List Byte} {k : Nat} :
    ∀ {o : Nat} {hs : List Half}, readHalves f o k = some hs →
      hs.map BitVec.toNat = (List.range k).map fun i => leValue f (o + 2 * i) 2 := by
  induction k with
  | zero => intro o hs h; cases h; rfl
  | succ k ih =>
    intro o hs h
    obtain ⟨x, rest, hx, hrest, rfl⟩ := readHalves_succ_eq_some.mp h
    rw [List.map_cons, ← (leValue_of_rd16 hx).2, ih hrest, List.range_succ_eq_map, List.map_cons,
      List.map_map]
    refine congrArg₂ List.cons rfl (List.map_congr_left fun i _ => ?_)
    rw [Function.comp_apply, Nat.mul_succ, Nat.add_assoc, Nat.add_comm 2]

theorem toInt_eq_asI16 (h : Half) : h.toInt = asI16 h.toNat := by
  rw [← toInt_ofNat_sixteen h.isLt, BitVec.ofNat_toNat, BitVec.setWidth_eq]

theorem readHalves_toInt {f : List Byte} {o k : Nat} {hs : List Half}
    (h : readHalves f o k = some hs) :
    hs.map BitVec.toInt = (List.range k).map fun j => asI16 (leValue f (o + 2 * j) 2) := by
  have hasI16 : hs.map BitVec.toInt = (hs.map BitVec.toNat).map asI16 := by
    rw [List.map_map]
    exact List.map_congr_left fun x _ => toInt_eq_asI16 x
  rw [hasI16, readHalves_toNat h, List.map_map]
  rfl

/-- Settles O44: the values read from offset 34 on, and those over a thousand. -/
theorem cellVoltagesAreFrameWords : Obligations.CellVoltagesAreFrameWords := by
  intro s f st t c hcfg hadmitted
  obtain ⟨u, hu, hread⟩ := exec_status_of_admitted hcfg hadmitted
  have hcells : u.snap.status.cellVoltage.map BitVec.toNat =
      (List.range c.toNat).map fun i => leValue f (34 + 2 * i) 2 := readHalves_toNat hread.cells
  refine ⟨u, hu, hcells, ?_⟩
  calc u.snap.status.cellVolts
      = (u.snap.status.cellVoltage.map BitVec.toNat).map fun n : ℕ => (n : ℚ) / 1000 := by
        rw [StatusGroup.cellVolts_eq, List.map_map]; rfl
    _ = (List.range c.toNat).map fun i => (leValue f (34 + 2 * i) 2 : ℚ) / 1000 := by
        rw [hcells, List.map_map]; rfl

/-- Settles O45: the signed values read after the cells, which are degrees already. -/
theorem temperaturesAreSignedFrameWords : Obligations.TemperaturesAreSignedFrameWords := by
  intro s f st t c hcfg hadmitted
  obtain ⟨u, hu, hread⟩ := exec_status_of_admitted hcfg hadmitted
  have htemps : u.snap.status.temperature.map BitVec.toInt =
      (List.range t.toNat).map fun j => asI16 (leValue f (34 + 2 * c.toNat + 2 * j) 2) :=
    readHalves_toInt hread.temps
  refine ⟨u, hu, htemps, ?_, ?_, hread.tempCount⟩
  · calc u.snap.status.degrees
        = (u.snap.status.temperature.map BitVec.toInt).map fun z : ℤ => (z : ℚ) := by
          rw [StatusGroup.degrees_eq, List.map_map]; rfl
      _ = (List.range t.toNat).map fun j =>
            (asI16 (leValue f (34 + 2 * c.toNat + 2 * j) 2) : ℚ) := by
          rw [htemps, List.map_map]; rfl
  · rw [hread.tempCount, readHalves_length hread.temps]

/-- The copy of a reading counted from the end, where there are two readings (R127). -/
theorem extraTemperature_toInt {f : List Byte} {o k back : Nat} {hs : List Half}
    (h : readHalves f o k = some hs) (htwo : 2 ≤ k) (hback : 0 < back) :
    (extraTemperature hs back).map BitVec.toInt =
      some (asI16 (leValue f (o + 2 * (k - back)) 2)) := by
  have hlen := readHalves_length h
  rw [extraTemperature, hlen, if_pos htwo, ← List.getElem?_map, readHalves_toInt h,
    List.getElem?_map, List.getElem?_range (by omega), Option.map_some]

theorem extraTemperature_of_lt_two {hs : List Half} (h : hs.length < 2) (back : Nat) :
    extraTemperature hs back = none :=
  if_neg (not_le.mpr h)

/-- Settles O46: both copies are taken from the readings committed beside them. -/
theorem extraTemperaturesAreCopies : Obligations.ExtraTemperaturesAreCopies := by
  intro s f st t c hcfg hadmitted
  obtain ⟨u, hu, hread⟩ := exec_status_of_admitted hcfg hadmitted
  refine ⟨u, hu, ?_⟩
  rw [hread.mosfet, hread.balancer]
  split
  · next htwo =>
    exact ⟨extraTemperature_toInt hread.temps htwo two_pos,
      extraTemperature_toInt hread.temps htwo one_pos⟩
  · next hfew =>
    have hlen : u.snap.status.temperature.length < 2 := by
      rw [readHalves_length hread.temps]
      exact not_le.mp hfew
    exact ⟨extraTemperature_of_lt_two hlen 2, extraTemperature_of_lt_two hlen 1⟩

/-- Settles O47: what each register holds, at the layout's base. -/
theorem layoutFieldsHoldTheirRawIntegers : Obligations.LayoutFieldsHoldTheirRawIntegers := by
  intro s f st t c hcfg hadmitted
  obtain ⟨u, hu, hread⟩ := exec_status_of_admitted hcfg hadmitted
  obtain ⟨-, hlayout, -⟩ := hcfg
  exact ⟨u, hu, fun e he => hread.raw_eq hlayout he⟩

/-! ## Texts -/

/-- A lookup is the entry's text where there is one (R131). -/
theorem lut_eq {n : Nat} (table : Vector (Option String) n) (code : Byte) :
    lut table code = (table[code.toNat]?).join.getD "Unknown" := by
  unfold lut
  match table[code.toNat]? with
  | some (some text) => rfl
  | some none => rfl
  | none => rfl

/-- The name of a battery status, looked up likewise (R132). -/
theorem batteryStatusName_eq (cfg : Config) (code : Byte) :
    batteryStatusName cfg code = (cfg.batteryStatusNames[code.toNat]?).join.getD "Unknown" := by
  unfold batteryStatusName
  match cfg.batteryStatusNames[code.toNat]? with
  | some (some text) => rfl
  | some none => rfl
  | none => rfl

/-- Settles O57: outside the table there is no entry, inside there is exactly one. -/
theorem lookupRendersUnknown : Obligations.LookupRendersUnknown := by
  intro n table code
  refine ⟨fun hout => ?_, fun hin => ?_⟩
  · rw [lut_eq, Vector.getElem?_eq_none hout, Option.join_none, Option.getD_none]
  · rw [lut_eq, Vector.getElem?_eq_getElem hin, Option.join_some]

/-- Settles O58: conformity fixes the name of code 1. -/
theorem batteryStatusOneIsIdle : Obligations.BatteryStatusOneIsIdle := by
  intro cfg hcfg
  obtain ⟨-, -, hidle⟩ := hcfg
  refine ⟨?_, fun code hout => ?_⟩
  · rw [batteryStatusName_eq]
    exact congrArg (fun o => o.join.getD "Unknown") hidle
  · rw [batteryStatusName_eq, List.getElem?_eq_none hout, Option.join_none, Option.getD_none]

/-- The reference text, with its units and their texts written out (R133). -/
theorem referenceDuration_eq (s : Nat) : referenceDuration s =
    joinWithSpaces
      (([(s / 31536000, "y"), (s % 31536000 / 86400, "d"), (s % 86400 / 3600, "h")].dropWhile
        fun u => u.1 == 0).map fun u => toString u.1 ++ u.2) := rfl

/-- Settles O56: below each bound the larger units are 0, and from it on the first unit kept is not. -/
theorem durationDropsLeadingZeroUnits : Obligations.DurationDropsLeadingZeroUnits := by
  intro s
  have hd : "d " = "d" ++ " " := rfl
  have hy : "y " = "y" ++ " " := rfl
  rw [referenceDuration_eq]
  split_ifs with hhour hday hyear
  · have hyears : s / 31536000 = 0 := by omega
    have hdays : s % 31536000 / 86400 = 0 := by omega
    have hhours : s % 86400 / 3600 = 0 := by omega
    rw [hyears, hdays, hhours]
    rfl
  · have hyears : s / 31536000 = 0 := by omega
    have hdays : s % 31536000 / 86400 = 0 := by omega
    have hhours : s % 86400 / 3600 = s / 3600 := by omega
    have hkept : s / 3600 ≠ 0 := by omega
    simp [hyears, hdays, hhours, hkept, joinWithSpaces]
  · have hyears : s / 31536000 = 0 := by omega
    have hdays : s % 31536000 / 86400 = s / 86400 := by omega
    have hkept : s / 86400 ≠ 0 := by omega
    simp [hyears, hdays, hkept, joinWithSpaces, hd, String.append_assoc]
  · have hkept : s / 31536000 ≠ 0 := by omega
    simp [hkept, joinWithSpaces, hd, hy, String.append_assoc]

end Sys2Proof.Machine

/-! # What each operation reports of the snapshot: the two updates, DEVINFO, the unhandled codes -/

namespace Sys2Proof.Machine

/-! ## The snapshot changes as the outcome reports -/

/-- What R152 asks of the snapshots before and after an operation with decode outcome `o`: an updating
outcome sets its own group's valid bit and leaves the other group alone, and without one nothing changes. -/
def Snapshot.ChangesAsReported (a : Snapshot) (o : Option DecodeOutcome) (b : Snapshot) : Prop :=
  (o = some .statusUpdated ∧ b.statusValid = true ∧
      b.devinfo = a.devinfo ∧ b.devinfoValid = a.devinfoValid) ∨
  (o = some .devInfoUpdated ∧ b.devinfoValid = true ∧
      b.status = a.status ∧ b.statusValid = a.statusValid) ∨
  (o ≠ some .statusUpdated ∧ o ≠ some .devInfoUpdated ∧ b = a)

theorem Snapshot.changesAsReported_none (a : Snapshot) : a.ChangesAsReported none a :=
  .inr (.inr ⟨nofun, nofun, rfl⟩)

theorem Snapshot.Decoded.changesAsReported {cfg : Config} {a b : Snapshot} {o : DecodeOutcome}
    (h : a.Decoded cfg o b) : a.ChangesAsReported (some o) b := by
  cases h with
  | status g hg => exact .inl ⟨rfl, rfl, rfl, rfl⟩
  | devinfo g => exact .inr (.inl ⟨rfl, rfl, rfl, rfl⟩)
  | kept o ho =>
    have hne {o'} (hupdates : o'.updates = true) : some o ≠ some o' := by
      rintro ⟨⟩
      cases ho.symm.trans hupdates
    exact .inr (.inr ⟨hne rfl, hne rfl, rfl⟩)

/-- Settles O10: only a decode writes the snapshot, RESET aside, and the outcome a decode reports, through
FEED's record or on its own, is the one that says what it wrote. -/
theorem onlyUpdatesChangeTheSnapshot : Obligations.OnlyUpdatesChangeTheSnapshot := by
  intro i s t hi h
  change s.snap.ChangesAsReported t.decodeOutcome? t.snap
  cases exec_effect h with
  | reset => exact absurd rfl hi
  | feed chunk hc hf =>
    cases hf with
    | noCandidate => exact s.snap.changesAsReported_none
    | rejected => exact s.snap.changesAsReported_none
    | accepted v acc d snap fn o hd => exact hd.changesAsReported
  | scratch i v acc r hn hr => exact (hr _).symm ▸ s.snap.changesAsReported_none
  | decoder i d snap fn o hn hd => exact hd.changesAsReported

/-! ## DEVINFO -/

/-- Settles O52: DEVINFO's two ways to end are told apart by the frame's length alone. -/
theorem devinfoCopiesTheVersions : Obligations.DevinfoCopiesTheVersions := by
  intro s f
  rw [exec_devinfo]
  obtain ⟨g, hrun, hlong, hhardware, hsoftware⟩ | ⟨hrun, hshort⟩ := runDevinfo_cases f s
  · rw [if_pos hlong, hrun]
    exact ⟨g, hhardware.trans (slice_eq_drop_take ..), hsoftware.trans (slice_eq_drop_take ..), rfl⟩
  · rw [if_neg (not_le.mpr hshort), hrun]
    rfl

/-! ## The unhandled codes -/

/-- An unhandled frame is a logged event (R163). -/
theorem unhandled_mem_log (overflowed opened : Bool) (fn : Byte) (frame : List Byte) :
    Cause.unhandled ∈ FeedResult.log ⟨overflowed, opened, .accepted fn frame .unhandled⟩ :=
  List.mem_filter.mpr ⟨List.mem_append_right _ (List.mem_singleton_self _), rfl⟩

/-- A FEED of a FRAME of an unhandled code emits the frame with that outcome and keeps the snapshot: it
decodes as DECODE does (O18), and DECODE changes nothing on that code (O41). -/
theorem exec_feed_frameOf_unhandled {s : State} {code : Byte} {payload : List Byte}
    (hstatus : code ≠ 0x11#8) (hdevinfo : code ≠ 0x12#8) (hp : payload.length ≤ 255)
    (hmax : (frameOf code payload).length ≤ s.cfg.chunkMax) :
    ∃ t, exec (.feed (frameOf code payload)) s = .next t ∧
      t.event = some ⟨decide (152 < s.fb.length), true,
        .accepted code (frameOf code payload) .unhandled⟩ ∧
      t.snap = s.snap := by
  obtain ⟨t, w, o, hfeed, hdecode, hreturned, hevent, -, hsnap, -⟩ :=
    frameDeliveredWholeIsAccepted s code payload hp hmax
  obtain ⟨-, -, hunhandled⟩ := decodeDispatchesOnFunctionCode s (frameOf code payload)
  cases hdecode.symm.trans (hunhandled code hstatus hdevinfo)
  cases hreturned
  exact ⟨t, hfeed, hevent, hsnap⟩

/-- Settles O53: the eleven operations all answer UNHANDLED's outcome on the state as it was, and a FEED of
such a FRAME decodes it so. -/
theorem unhandledCodesChangeNothing : Obligations.UnhandledCodesChangeNothing := by
  intro s f code
  refine ⟨rfl, rfl, rfl, rfl, rfl, rfl, rfl, rfl, rfl, rfl, fun _ => rfl, ?_⟩
  intro payload hstatus hdevinfo hp hmax
  obtain ⟨t, hfeed, hevent, hsnap⟩ := exec_feed_frameOf_unhandled hstatus hdevinfo hp hmax
  exact ⟨t, _, hfeed, hevent, rfl, unhandled_mem_log .., hsnap⟩

end Sys2Proof.Machine

/-! # The exceptional outcomes: what only FEED or RESET can change, completion, the causes a FEED reports -/

namespace Sys2Proof.Machine

/-! ## Steps from the port -/

theorem decodeBare_eq_ok {i j : Instr} {bytes : List Byte} :
    decodeBare i bytes = .ok j ↔ bytes = [] ∧ i = j := by
  cases bytes <;> simp [decodeBare]

/-- A port request that decodes is the one its operation is encoded as, and only the three port operations
are reached so (D1). -/
theorem eq_encode_of_decode_port {r : Request} {i : Instr} (hport : r.select.isPort = true)
    (h : decode r = .ok i) :
    r = encode i ∧ (i = .reset ∨ (∃ chunk, i = .feed chunk) ∨ i = .snapRead) := by
  obtain ⟨input, bytes⟩ := r
  cases input with
  | reset =>
    obtain ⟨rfl, rfl⟩ := decodeBare_eq_ok.mp h
    exact ⟨rfl, .inl rfl⟩
  | feed =>
    cases h
    exact ⟨rfl, .inr (.inl ⟨bytes, rfl⟩)⟩
  | snapRead =>
    obtain ⟨rfl, rfl⟩ := decodeBare_eq_ok.mp h
    exact ⟨rfl, .inr (.inr rfl)⟩
  | _ => cases hport

theorem State.portOnly_of_cons {s : State} {r : Request} {rest : List Request}
    (h : s.pending = r :: rest) :
    s.portOnly = true ↔ r.select.isPort = true ∧ rest.all (·.select.isPort) = true := by
  rw [State.portOnly, h, List.all_cons, Bool.and_eq_true]

/-- Settles O12: a step takes the head off the queue and no operation refills it (O7); of the three port
operations, SNAP.READ writes the outputs alone. -/
theorem portStepsChangeStateOnlyByFeedOrReset :
    Obligations.PortStepsChangeStateOnlyByFeedOrReset := by
  intro s t hport hstep
  obtain rfl | ⟨r, rest, i, hpending, hdecode, hexec⟩ := step_cases hstep
  · exact ⟨hport, fun hchanged => absurd rfl hchanged⟩
  · obtain ⟨hhead, hrest⟩ := (State.portOnly_of_cons hpending).mp hport
    obtain ⟨-, htail⟩ := noOperationWritesConfiguration i _ t hexec
    refine ⟨by rwa [State.portOnly, htail], fun hchanged => ⟨rest, ?_⟩⟩
    rw [hpending]
    obtain ⟨rfl, rfl | ⟨chunk, rfl⟩ | rfl⟩ := eq_encode_of_decode_port hhead hdecode
    · exact .inr rfl
    · exact .inl ⟨chunk, rfl⟩
    · cases hexec
      exact absurd rfl hchanged

/-! ## Completion -/

/-- Settles O8: FEED alone can be refused, and only for a chunk that is not well formed. -/
theorem wellFormedOperationsComplete : Obligations.WellFormedOperationsComplete := by
  intro s i hw
  cases i with
  | feed chunk => exact ⟨_, exec_feed_of_le (of_decide_eq_true hw)⟩
  | _ => exact ⟨_, rfl⟩

/-! ## The causes of a FEED -/

theorem Cause.code_eq_one_iff {c : Cause} : c.code = 1 ↔ c = .overflow := by cases c <;> decide

theorem Cause.logged_iff {c : Cause} : c.logged = true ↔ c.code ≠ 6 := by cases c <;> decide

/-- The outcome of a FEED is never reported as the overflow, which has a flag of its own (R165). -/
theorem FeedOutcome.cause?_ne_overflow (o : FeedOutcome) : o.cause? ≠ some .overflow := by
  cases o with
  | noCandidate => nofun
  | rejected reason => cases reason <;> nofun
  | accepted fn frame decoded => cases decoded <;> nofun

theorem FeedResult.mem_causes {r : FeedResult} {c : Cause} :
    c ∈ r.causes ↔ (r.overflowCleared = true ∧ c = .overflow) ∨ r.outcome.cause? = some c := by
  simp [FeedResult.causes]

theorem FeedResult.overflow_mem_causes {r : FeedResult} :
    Cause.overflow ∈ r.causes ↔ r.overflowCleared = true := by
  simp [FeedResult.mem_causes, r.outcome.cause?_ne_overflow]

theorem FeedResult.causes_length_le (r : FeedResult) : r.causes.length ≤ 2 := by
  have hflag : (if r.overflowCleared then [Cause.overflow] else []).length ≤ 1 := by split <;> simp
  have houtcome : r.outcome.cause?.toList.length ≤ 1 := by cases r.outcome.cause? <;> simp
  rw [FeedResult.causes, List.length_append]
  omega

theorem FeedResult.mem_log {r : FeedResult} {c : Cause} :
    c ∈ r.log ↔ c ∈ r.causes ∧ c.code ≠ 6 := by
  rw [FeedResult.log, List.mem_filter, Cause.logged_iff]

/-- Settles O60: one place for the overflow and one for the outcome, whose cause is never the overflow. -/
theorem feedReportsAtMostTwoCauses : Obligations.FeedReportsAtMostTwoCauses := by
  intro r
  refine ⟨r.causes_length_le, ?_, fun c => FeedResult.mem_log⟩
  simp [Cause.code_eq_one_iff, FeedResult.overflow_mem_causes]

end Sys2Proof.Machine

/-! # RESET and the hazards: candidates rejected for their length, and where a frame may be cut -/

namespace Sys2Proof.Machine

/-! ## RESET -/

/-- Settles O14: RESET's effect with both outputs written is the state named. -/
theorem resetOperationClears : Obligations.ResetOperationClears := fun _ => rfl

/-! ## Candidates of another length than they declare -/

theorem declaredLength_eq_some {f : List Byte} {n : Nat} (h : declaredLength f = some n) :
    ∃ dlen, f[5]? = some dlen ∧ frameLen dlen = n :=
  Option.map_eq_some_iff.mp h

/-- The length check decides a candidate whose length byte declares another length (R108). -/
theorem runValidate_of_wrong_length {buf : List Byte} {fn dlen : Byte} (s : State)
    (hfn : buf[2]? = some fn) (hcode : fn ≠ fnDevinfo) (hdlen : buf[5]? = some dlen)
    (hlen : frameLen dlen ≠ buf.length) :
    (runValidate buf s).2 = .rejected .lengthMismatch := by
  obtain ⟨hfive, -⟩ := List.getElem?_eq_some_iff.mp hdlen
  rw [runValidate_of_header s hfive hfn hdlen, checkFrame_of_wrong_length _ hcode hlen]

/-- A frame cut short lacks its header bytes or is not as long as they declare (R183). -/
theorem runValidate_take {F : List Byte} {fn : Byte} {k : Nat} (s : State) (hfn : F[2]? = some fn)
    (hcode : fn ≠ fnDevinfo) (hdeclared : declaredLength F = some F.length) (hk : k < F.length) :
    ∃ reason, (runValidate (F.take k) s).2 = .rejected reason ∧ reason ≠ .crcMismatch := by
  have htake : (F.take k).length = k := List.length_take_of_le hk.le
  by_cases hshort : k < 6
  · rw [runValidate_of_short s (htake.trans_lt hshort)]
    exact ⟨.malformed, rfl, by decide⟩
  · obtain ⟨dlen, hdlen, hflen⟩ := declaredLength_eq_some hdeclared
    refine ⟨.lengthMismatch, runValidate_of_wrong_length s (fn := fn) (dlen := dlen) ?_ hcode ?_ ?_,
      by decide⟩
    · rw [List.getElem?_take_of_lt (by omega), hfn]
    · rw [List.getElem?_take_of_lt (by omega), hdlen]
    · omega

/-- A FEED whose candidate VALIDATE rejects reports that; the buffer is empty, the snapshot kept (R95). -/
theorem exec_feed_of_rejected {s : State} {chunk buf : List Byte} {reason : RejectReason}
    (hmax : chunk.length ≤ s.cfg.chunkMax) (hbuf : assembled s.fb chunk = buf)
    (hlast : buf.getLast? = some 0x55#8)
    (hv : (runValidate buf { s with fb := buf }).2 = .rejected reason) :
    ∃ t, exec (.feed chunk) s = .next t ∧ t.feedOutcome? = some (.rejected reason) ∧ t.fb = [] ∧
      t.snap = s.snap := by
  subst hbuf
  obtain ⟨v, acc, hfeed⟩ := runFeed_of_rejected (beq_iff_eq.mpr hlast) hv
  exact ⟨_, exec_feed_of_le hmax, hfeed ▸ ⟨rfl, rfl, rfl⟩⟩

/-- Settles O25: the first frame's header declares the length of that frame alone. -/
theorem twoFramesInOneChunkAreRejected : Obligations.TwoFramesInOneChunkAreRejected := by
  intro s fn payload more hcode hp hmore hmax
  have hpos : 0 < more.length := by
    cases more with
    | nil => cases hmore
    | cons => exact Nat.succ_pos _
  have hlen : (frameOf fn payload).length = 10 + payload.length := frameWith_length ..
  refine exec_feed_of_rejected hmax (assembled_of_preamble s.fb rfl) ?_
    (runValidate_of_wrong_length _ (fn := fn) rfl hcode rfl ?_)
  · rw [List.getLast?_append, hmore, Option.some_or]
  · rw [frameLen_frameOf hp, List.length_append, hlen]
    omega

/-- Settles O26: the cut-short frame is the whole buffer, and VALIDATE rejects it before any CRC check. -/
theorem trailingFooterByteTriggersEarly : Obligations.TrailingFooterByteTriggersEarly := by
  intro s F k fn hfb hfn hcode hdeclared hk hlast hmax
  obtain ⟨reason, hv, hreason⟩ := runValidate_take { s with fb := F.take k } hfn hcode hdeclared hk
  obtain ⟨t, hexec, houtcome, hempty, hsnap⟩ := exec_feed_of_rejected
    ((List.length_take_le k F).trans hmax) (hfb ▸ assembled_nil (F.take k)) hlast hv
  exact ⟨t, reason, hexec, houtcome, hreason, hempty, hsnap⟩

/-! ## Sequences of FEEDs -/

theorem feedAll_cons_eq_next {c : List Byte} {cs : List (List Byte)} {s t : State} :
    feedAll (c :: cs) s = .next t ↔ ∃ u, exec (.feed c) s = .next u ∧ feedAll cs u = .next t := by
  rw [feedAll]
  cases exec (.feed c) s <;> simp

theorem feedAll_concat_eq_next {cs : List (List Byte)} {c : List Byte} {t : State} :
    ∀ {s}, feedAll (cs ++ [c]) s = .next t ↔
      ∃ u, feedAll cs s = .next u ∧ exec (.feed c) u = .next t := by
  induction cs with
  | nil =>
    intro s
    rw [List.nil_append, feedAll_cons_eq_next]
    simp [feedAll]
  | cons b cs ih =>
    intro s
    simp only [List.cons_append, feedAll_cons_eq_next, ih]
    constructor
    · rintro ⟨v, hv, u, hu, ht⟩
      exact ⟨u, ⟨v, hv, hu⟩, ht⟩
    · rintro ⟨u, ⟨v, hv, hu⟩, ht⟩
      exact ⟨v, hv, u, hu, ht⟩

/-- FEEDs of chunks within `CHUNK_MAX` all complete (R192, D2). -/
theorem feedAll_completes {cs : List (List Byte)} :
    ∀ {s : State}, (∀ c ∈ cs, c.length ≤ s.cfg.chunkMax) →
      ∃ t, feedAll cs s = .next t ∧ t.cfg = s.cfg := by
  induction cs with
  | nil => exact fun {s} _ => ⟨s, rfl, rfl⟩
  | cons c cs ih =>
    intro s hmax
    obtain ⟨hc, hcs⟩ := List.forall_mem_cons.mp hmax
    have hexec := exec_feed_of_le hc
    obtain ⟨hcfg, -⟩ := noOperationWritesConfiguration _ _ _ hexec
    obtain ⟨t, hall, ht⟩ := ih (s := runFeed c s) (hcfg ▸ hcs)
    exact ⟨t, feedAll_cons_eq_next.mpr ⟨_, hexec, hall⟩, ht.trans hcfg⟩

/-! ## The cuts of a cutting -/

/-- What (ii), (iii) and (iv) of R188 say of the cut between two neighbouring chunks. -/
theorem CutsSafely.at_cut {cs init rest : List (List Byte)} {b c : List Byte} (h : CutsSafely cs)
    (hcs : cs = init ++ b :: c :: rest) :
    b.getLast? ≠ some 0x55#8 ∧ c.take 2 ≠ [0x7E#8, 0xA1#8] ∧ (init ++ [b]).flatten.length ≤ 152 := by
  subst hcs
  refine ⟨h.noInnerFooter b ?_, h.noInnerPreamble c ?_, ?_⟩
  · rw [List.dropLast_append_of_ne_nil (List.cons_ne_nil _ _)]
    simp
  · cases init <;> simp
  · have hfits := h.prefixesFit (init.length + 1) (by simp)
    rwa [List.append_cons, List.take_left' (by simp)] at hfits

theorem cutsSafely_singleton (c : List Byte) : CutsSafely [c] where
  noInnerFooter := nofun
  noInnerPreamble := nofun
  prefixesFit j hj := by
    obtain rfl : j = 0 := Nat.lt_one_iff.mp hj
    exact Nat.zero_le _

/-- One more chunk behind a safe cutting adds one cut. -/
theorem CutsSafely.concat {init : List (List Byte)} {b c : List Byte} (h : CutsSafely (init ++ [b]))
    (hb : b.getLast? ≠ some 0x55#8) (hc : c.take 2 ≠ [0x7E#8, 0xA1#8])
    (hlen : (init ++ [b]).flatten.length ≤ 152) : CutsSafely (init ++ [b] ++ [c]) where
  noInnerFooter x hx := by
    rw [List.dropLast_concat, List.mem_append, List.mem_singleton] at hx
    obtain hx | rfl := hx
    · exact h.noInnerFooter x (by rwa [List.dropLast_concat])
    · exact hb
  noInnerPreamble x hx := by
    rw [List.tail_append_of_ne_nil (by simp), List.mem_append, List.mem_singleton] at hx
    obtain hx | rfl := hx
    · exact h.noInnerPreamble x hx
    · exact hc
  prefixesFit j hj := by
    have hle : j ≤ (init ++ [b]).length := Nat.le_of_lt_succ (by rwa [List.length_append] at hj)
    rw [List.take_append_of_le_length hle]
    obtain rfl | hlt := hle.eq_or_lt
    · rwa [List.take_length]
    · exact h.prefixesFit j hlt

/-! ## Necessity: a frame that arrives whole was cut safely -/

/-- What an accepting FEED reports as its frame is its assembled buffer (R96). -/
theorem assembled_of_accepted {s t : State} {chunk f : List Byte} {fn : Byte} {o : DecodeOutcome}
    (h : exec (.feed chunk) s = .next t) (ho : t.feedOutcome? = some (.accepted fn f o)) :
    assembled s.fb chunk = f := by
  cases (execFeed_effect h).2 with
  | noCandidate => cases ho
  | rejected => cases ho
  | accepted => cases ho; rfl

/-- Bytes held after a FEED are all that it assembled, and no candidate (R94, R95). -/
theorem assembled_of_fb_ne_nil {s t : State} {chunk : List Byte} (h : exec (.feed chunk) s = .next t)
    (hfb : t.fb ≠ []) : assembled s.fb chunk = t.fb ∧ t.fb.getLast? ≠ some 0x55#8 := by
  cases (execFeed_effect h).2 with
  | noCandidate hlast => exact ⟨rfl, hlast⟩
  | rejected => exact absurd rfl hfb
  | accepted => exact absurd rfl hfb

/-- Bytes that stand before a chunk were held, and neither step 1 nor step 2 cleared them (R91, R92). -/
theorem kept_of_assembled_eq_append {fb old chunk : List Byte} (hold : old ≠ [])
    (h : assembled fb chunk = old ++ chunk) :
    fb = old ∧ old.length ≤ 152 ∧ chunk.take 2 ≠ [0x7E#8, 0xA1#8] := by
  have hfb := List.append_cancel_right h
  split at hfb
  · exact absurd hfb.symm hold
  · next hkept =>
    obtain ⟨hlen, hchunk⟩ := not_or.mp hkept
    exact ⟨hfb, hfb ▸ not_lt.mp hlen, hchunk⟩

/-- If a FEED assembles all the bytes fed, none was cleared on the way: every cut met its conditions. -/
theorem cutsSafely_of_assembled {init : List (List Byte)} :
    ∀ {c : List Byte} {s u : State}, (∀ b ∈ init, b ≠ []) → feedAll init s = .next u →
      assembled u.fb c = init.flatten ++ c → CutsSafely (init ++ [c]) := by
  induction init using List.reverseRecOn with
  | nil => exact fun {c} _ _ _ _ _ => cutsSafely_singleton c
  | append_singleton init b ih =>
    intro c s u hne hall hu
    obtain ⟨hinit, hb⟩ := List.forall_mem_append.mp hne
    have hbne : b ≠ [] := hb b (List.mem_singleton_self b)
    have hflat : (init ++ [b]).flatten = init.flatten ++ b := List.flatten_concat
    have hold : (init ++ [b]).flatten ≠ [] := hflat ▸ List.append_ne_nil_of_right_ne_nil _ hbne
    obtain ⟨hfb, hlen, hc⟩ := kept_of_assembled_eq_append hold hu
    obtain ⟨u', hall', hexec⟩ := feedAll_concat_eq_next.mp hall
    obtain ⟨hassembled, hlast⟩ := assembled_of_fb_ne_nil hexec (hfb ▸ hold)
    rw [hfb, hflat] at hassembled hlast
    rw [List.getLast?_append_of_ne_nil _ hbne] at hlast
    exact (ih hinit hall' hassembled).concat hlast hc hlen

/-- A sequence of non-empty chunks that ends in the acceptance of all its bytes is cut safely. -/
theorem cutsSafely_of_accepted {cs : List (List Byte)} {s t : State} {fn : Byte} {o : DecodeOutcome}
    (hne : ∀ c ∈ cs, c ≠ []) (hcs : cs ≠ []) (hall : feedAll cs s = .next t)
    (ho : t.feedOutcome? = some (.accepted fn cs.flatten o)) : CutsSafely cs := by
  obtain ⟨init, c, rfl⟩ := (List.eq_nil_or_concat' cs).resolve_left hcs
  obtain ⟨u, hinit, hexec⟩ := feedAll_concat_eq_next.mp hall
  exact cutsSafely_of_assembled (List.forall_mem_append.mp hne).1 hinit
    ((assembled_of_accepted hexec ho).trans List.flatten_concat)

/-- The chunks of a cutting are no longer than the whole. -/
theorem CuttingOf.length_le {F fb : List Byte} {cs : List (List Byte)} (h : CuttingOf F fb cs)
    {c : List Byte} (hc : c ∈ cs) : c.length ≤ F.length := by
  rw [← h.whole]
  exact (List.sublist_flatten_of_mem hc).length_le

/-- Settles O29: the FEEDs complete, and had the last one accepted F, the cutting would have been safe. -/
theorem unsafeCuttingLosesTheFrame : Obligations.UnsafeCuttingLosesTheFrame := by
  intro s w F fn o cs hwhole _ _ hcut hunsafe
  obtain ⟨hmax, -⟩ := execFeed_effect hwhole
  obtain ⟨t, hall, -⟩ :=
    feedAll_completes (s := s) fun c hc => (hcut.length_le hc).trans hmax
  refine ⟨t, hall, fun ho => hunsafe ?_⟩
  rw [← hcut.whole] at ho
  exact cutsSafely_of_accepted hcut.chunks hcut.nonempty hall ho

theorem bytewiseChunks_flatten (F : List Byte) : (bytewiseChunks F).flatten = F := by
  induction F with
  | nil => rfl
  | cons b F ih => exact congrArg (b :: ·) ih

/-- Settles O30: a safe cutting never holds 153 bytes before its last chunk, and one-byte chunks do (R186). -/
theorem longFrameIsLostBytewise : Obligations.LongFrameIsLostBytewise := by
  intro s F _ hmax hlong
  have hone : ∀ c ∈ bytewiseChunks F, c.length = 1 := by simp [bytewiseChunks]
  obtain ⟨t, hall, -⟩ := feedAll_completes (s := s) fun c hc => (hone c hc).trans_le hmax
  refine ⟨t, hall, fun fn o ho => ?_⟩
  have hcount : (bytewiseChunks F).length = F.length := List.length_map _
  have hsafe : CutsSafely (bytewiseChunks F) := by
    refine cutsSafely_of_accepted (fun c hc => ?_) ?_ hall ((bytewiseChunks_flatten F).symm ▸ ho)
    · exact List.ne_nil_of_length_pos (hone c hc ▸ Nat.one_pos)
    · exact List.ne_nil_of_length_pos (by omega)
  have hprefix := hsafe.prefixesFit 153 (hcount ▸ hlong)
  rw [bytewiseChunks, ← List.map_take, ← bytewiseChunks, bytewiseChunks_flatten,
    List.length_take_of_le hlong.le] at hprefix
  omega

/-! ## Sufficiency: what a safe cutting gathers -/

/-- VALIDATE neither reads nor writes the two outputs. -/
theorem runValidate_returning (buf : List Byte) (s : State) (r : Returned) :
    runValidate buf (s.returning r) = ((runValidate buf s).1.returning r, (runValidate buf s).2) := by
  unfold runValidate checkFrame checkCrc
  dsimp only [State.setValidator, State.setCrcAcc, State.returning, runCrc16]
  repeat' split
  all_goals rfl

/-- Step 4 neither reads nor writes the two outputs. -/
theorem judge_returning (s : State) (r : Returned) :
    judge (s.returning r) = ((judge s).1.returning r, (judge s).2) := by
  unfold judge
  simp only [State.returning_fb, runValidate_returning, State.endAttempt]
  split
  · split
    · next fn _ =>
      rw [State.clearBuffer, returning_clearBuffer, runDecode_returning]
    · rfl
  · rfl

/-- FEEDs that assemble the same bytes leave the same buffer and snapshot and report the same outcome,
whatever was held, cut or shown before. -/
theorem runFeed_congr {s : State} {fb fb' chunk chunk' : List Byte} (event : Option FeedResult)
    (returned : Returned) (h : assembled fb chunk = assembled fb' chunk') :
    let t := runFeed chunk { s with fb := fb, event := event, returned := returned }
    let u := runFeed chunk' { s with fb := fb' }
    t.fb = u.fb ∧ t.snap = u.snap ∧ t.feedOutcome? = u.feedOutcome? := by
  obtain ⟨hstate, houtcome⟩ := Prod.mk.inj <|
    (judge_returning { s with fb := assembled fb chunk, event, returned } .nothing).symm.trans
      (judge_returning { s with fb := assembled fb chunk } .nothing)
  simp only [runFeed_eq_judge, ← h]
  exact ⟨congrArg (·.fb) hstate, congrArg (·.snap) hstate, congrArg some houtcome⟩

/-- A cutting that starts as (i) asks is assembled from its first chunk on (R91, R92). -/
theorem CuttingOf.assembled_head {F fb : List Byte} {cs : List (List Byte)} (h : CuttingOf F fb cs) :
    assembled fb (cs.headD []) = cs.headD [] := by
  obtain ⟨c, cs, rfl⟩ := List.exists_cons_of_ne_nil h.nonempty
  obtain rfl | ⟨hpreamble, htwo⟩ := h.start
  · exact assembled_nil c
  · refine assembled_of_preamble fb ?_
    have htwo : 2 ≤ c.length := htwo
    rwa [← h.whole, List.flatten_cons, List.take_append_of_le_length htwo] at hpreamble

/-- Up to any chunk of a safe cutting, the FEEDs found no candidate and wrote the buffer and the outputs
alone, and that chunk assembles with all that came before it. -/
theorem CuttingOf.gathers {F : List Byte} {cs : List (List Byte)} {s : State}
    (hcut : CuttingOf F s.fb cs) (hsafe : CutsSafely cs) (hmax : F.length ≤ s.cfg.chunkMax)
    {init : List (List Byte)} : ∀ {c rest}, cs = init ++ c :: rest → ∃ fb event returned,
      feedAll init s = .next { s with fb := fb, event := event, returned := returned } ∧
      assembled fb c = init.flatten ++ c ∧
      (init ≠ [] → event.map (·.outcome) = some .noCandidate) := by
  induction init using List.reverseRecOn with
  | nil =>
    rintro c rest rfl
    exact ⟨s.fb, s.event, s.returned, rfl, hcut.assembled_head, nofun⟩
  | append_singleton init b ih =>
    intro c rest hcs
    rw [← List.append_cons] at hcs
    obtain ⟨fb, event, returned, hall, hassembled, -⟩ := ih hcs
    obtain ⟨hlast, hc, hlen⟩ := hsafe.at_cut hcs
    have hb : b ∈ cs := by simp [hcs]
    have hnone : (assembled fb b).getLast? ≠ some 0x55#8 := by
      rwa [hassembled, List.getLast?_append_of_ne_nil _ (hcut.chunks b hb)]
    have hexec := exec_feed_of_le (s := { s with fb, event, returned }) ((hcut.length_le hb).trans hmax)
    rw [runFeed_of_not_candidate hnone] at hexec
    rw [List.flatten_concat] at hlen ⊢
    refine ⟨assembled fb b, _, _, feedAll_concat_eq_next.mpr ⟨_, hall, hexec⟩, ?_, fun _ => rfl⟩
    rw [hassembled, assembled_of_kept hlen hc]

/-- Settles O28: the last FEED finds assembled what the whole delivery finds. -/
theorem safeCuttingReproducesTheFrame : Obligations.SafeCuttingReproducesTheFrame := by
  intro s w F fn o cs hwhole ho _ hcut hsafe
  obtain ⟨hmax, -⟩ := execFeed_effect hwhole
  refine ⟨fun j hpos hj => ?_, ?_⟩
  · obtain ⟨fb, event, returned, hall, -, hnone⟩ := hcut.gathers hsafe hmax
      (show cs = cs.take j ++ cs[j] :: cs.drop (j + 1) by
        rw [List.getElem_cons_drop, List.take_append_drop])
    have hne : cs.take j ≠ [] := List.ne_nil_of_length_pos ((List.length_take_of_le hj.le).symm ▸ hpos)
    exact ⟨_, hall, hnone hne⟩
  · obtain ⟨init, c, rfl⟩ := (List.eq_nil_or_concat' cs).resolve_left hcut.nonempty
    obtain ⟨fb, event, returned, hall, hassembled, -⟩ := hcut.gathers hsafe hmax rfl
    have hc : c ∈ init ++ [c] := List.mem_append_right _ (List.mem_singleton_self c)
    rw [← List.flatten_concat, hcut.whole, ← assembled_nil F] at hassembled
    obtain ⟨hfb, hsnap, houtcome⟩ := runFeed_congr (s := s) event returned hassembled
    obtain ⟨-, hempty, -⟩ := bufferLengthAfterFeed _ _ _ hwhole
    obtain ⟨-, rfl⟩ := execFeed_eq_next.mp hwhole
    exact ⟨_, feedAll_concat_eq_next.mpr ⟨_, hall, exec_feed_of_le ((hcut.length_le hc).trans hmax)⟩,
      houtcome.trans ho, hsnap, hfb.trans (hempty (by rw [ho]; nofun))⟩

end Sys2Proof.Machine
